-- ==== Sys2Proof/Word.lean ====
section
/-! DEFINITION. The plain quantities of the CX416: a module-memory byte and the numbers of cages,
groups, slots, profiles and lanes (00_scope, Conventions). -/

namespace Sys2Proof

/-- One byte of module memory, of a control page, or of a two-wire transfer. -/
abbrev Byte := BitVec 8

/-- A cage, 0 to 15. -/
abbrev CageId := Fin 16

/-- A group of four cages, 0 to 3, with one upstream and one downstream port. -/
abbrev GroupId := Fin 4

/-- The position of a cage within its group, 0 to 3. -/
abbrev SlotId := Fin 4

/-- One of the four region profiles P0 to P3. -/
abbrev ProfileId := Fin 4

/-- An optical lane of a module, 0 to 7. -/
abbrev LaneId := Fin 8

end Sys2Proof
end

