-- ==== Sys2Proof/Syntax.lean ====
section
/-! DEFINITION. The commands of the CX416: one constructor of `Instr` for each row of
spec/opcode_table.json (the part's steps, 95_what_each_step_holds), with the operands the
step's own rule gives it. -/

namespace Sys2Proof

/-- The two agents of a cage that raise engine bursts (R21). -/
inductive Agent
  | sequencer
  | monitor
deriving DecidableEq, Repr

/-- The three latched-flag bytes and their enable bytes on the CTRL page (R172, R173): the device
byte at 131 and 132, and the two cage bytes at 183, 184 and 185, 186. -/
inductive FlagByte
  | device
  | cageLow
  | cageHigh
deriving DecidableEq, Repr

/-- The two control pages (R2, R182). -/
inductive ControlPage
  | ctrl
  | window
deriving DecidableEq, Repr

/-- The commands. `g` is a group, `k` a cage, `p` a profile. A Bool named `read` is the direction
bit, `ack` an acknowledge bit (true: acknowledged), `asserted` a line's level. -/
inductive Instr
  -- upstream bus (R3 to R19)
  | start (g : GroupId) (selects : BitVec 4)
  | repeatedStart (g : GroupId)
  | stop (g : GroupId)
  | addressByte (g : GroupId) (address : BitVec 7) (read : Bool)
  | offsetByte (g : GroupId) (offset : Byte)
  | writeDataByte (g : GroupId) (value : Byte)
  | readDataByte (g : GroupId) (hostAck : Bool)
  -- downstream bus (R4, R14, R24)
  | moduleAnswer (g : GroupId) (ack : Bool) (data : Byte)
  | moduleStall (g : GroupId)
  | moduleReleasesDscl (g : GroupId)
  | hostWaitExpiry (g : GroupId)
  | abandoned (g : GroupId)
  | burstEnd (g : GroupId)
  | retryIntervalExpiry (k : CageId) (agent : Agent)
  -- presence and cage lines (R79 to R95)
  | rise (k : CageId)
  | dropDuringSettle (k : CageId)
  | bounce (k : CageId)
  | settleQualification (k : CageId)
  | unacceptedRemoval (k : CageId)
  | drop (k : CageId)
  | glitch (k : CageId)
  | qualifiedRemoval (k : CageId)
  | mirqChange (k : CageId) (asserted : Bool)
  | resetPulseEnd (k : CageId)
  -- timers of the sequencer, the operations and the Light Monitor
  | bootTimeout (k : CageId)
  | bootDelay (k : CageId)
  | rampTimeout (k : CageId)
  | rampDelay (k : CageId)
  | pollTimerExpiry (k : CageId)
  | settleWaitEnd (k : CageId)
  | servingCheck (k : CageId)
  | concealTimerExpiry (k : CageId)
  | revealMinimumExpiry (k : CageId)
  | sampleTimerExpiry (k : CageId)
  | lightTimeout (k : CageId)
  | probeTimerExpiry (k : CageId)
  -- host commands (R188); an operand is the argument byte the command takes
  | resume (k : CageId)
  | adopt (k : CageId)
  | forceReplay (k : CageId)
  | release (k : CageId)
  | moduleReset (k : CageId)
  | cageClear (k : CageId)
  | bindProfile (k : CageId) (profile : Byte)
  | own (k : CageId) (line owner : Byte)
  | line (k : CageId) (line level : Byte)
  | snapshotCage (k : CageId)
  | snapshotDevice (k : CageId)
  | setMode (k : CageId) (mode : Byte)
  | unknownCommand (k : CageId) (code : Byte)
  -- control-page writes (R175, R176, R184 to R187)
  | flagClear (k : CageId) (which : FlagByte) (value : Byte)
  | enableWrite (k : CageId) (which : FlagByte) (value : Byte)
  | budgetWrite (value : Byte)
  | quotaWrite (k : CageId) (value : Byte)
  | selectOffsetWrite (p : ProfileId) (bank : Bool) (value : Byte)
  | thresholdWrite (p : ProfileId) (lit : Bool) (value : Byte)
  | windowSelectorWrite (k : CageId) (index : Bool) (value : Byte)
  | profileFieldWrite (k : CageId) (offset value : Byte)
  | settingWrite (k : CageId) (page : ControlPage) (offset value : Byte)
  -- reset (R190, R191); the operands of START_UP are the strap pins (R182)
  | resetNAssertion
  | startUp (maddr mode : Bool) (cpage : BitVec 2)
deriving DecidableEq, Repr

end Sys2Proof
end

