-- ==== Sys2Proof/Decode.lean ====
section
/-! DEFINITION. The table's bits. spec/opcode_table.json gives no row of this block any bits (every
row's "fields" is empty and none has "fixed"): the commands are events, and no word spells one. -/

namespace Sys2Proof

/-- The command that a table word spells. No row gives bits, so no word spells a command. -/
def decodeTableWord (_nbits _w : Nat) : Option Instr := none

end Sys2Proof
end

