-- ==== Sys2Proof/Config.lean ====
section
/-! DEFINITION. What is fixed for every CX416: the sizes of its shared pools and its fixed limits,
and the one outcome the manual leaves open inside a step (the free value). -/

namespace Sys2Proof.Config

/-- Journal records in the pool (R46). -/
def journalPool : Nat := 1024

/-- Page Cache lines in the pool (R66). -/
def cacheLines : Nat := 512

/-- Where a 16-bit counter or measurement saturates (R177). -/
def counterMax : Nat := 65535

/-- Where the recovery clock saturates, in ms (R97). -/
def clockMax : Nat := 6553599

/-- Failed samples in a row that start a SILENT recovery (R169). -/
def failedSampleLimit : Nat := 8

/-- FREE VALUE (assumption 3). R21: when both agents of a cage begin waiting for its request slot at
the same moment, either may go first. `tieBreak n` is whether the Light Monitor goes first at the
`n`th such moment; it has no body, so nothing can be proved of it. -/
opaque tieBreak : Nat → Bool

end Sys2Proof.Config
end

