-- ==== Sys2Proof/Machine/State.lean ====
section
/-! DEFINITION. The state of the CX416: every register, list, queue, timer, flag and line the manual
gives it, as plain data; its fault and refusal reasons; and its state after reset. -/

namespace Sys2Proof.Machine

/-! ## Timers (00_scope: every timer counts the 1 ms timebase) -/

/-- A running timer: the duration it sampled when it started, and the time it has run, in ms. A
stopped timer is `none`. -/
structure Timer where
  duration : Nat
  elapsed : Nat
deriving DecidableEq, Repr

/-! ## Module memory (R1, R2) -/

inductive Area
  | lower
  | upper
deriving DecidableEq, Repr

/-- The name of one block of module memory (R2). -/
inductive Key
  | lower (block : Fin 32)
  | upper (bank page : Byte) (block : Fin 32)
deriving DecidableEq, Repr

/-- Eight positions of a block, each absent or holding a byte. A position's mask flag is set exactly
when it holds a byte; a byte outside the mask has no meaning and reads 0 (R45, R66). -/
abbrev Octet := Vector (Option Byte) 8

/-! ## Region profiles (R34 to R42) -/

inductive WriteClass
  | retain
  | sequence
  | omitted
  | reset
deriving DecidableEq, Repr

inductive ReadClass
  | static
  | live
deriving DecidableEq, Repr

inductive Role
  | model
  | unit
deriving DecidableEq, Repr

inductive KinPolicy
  | hold
  | replay
deriving DecidableEq, Repr

/-- A location: one byte of module memory (3.1). -/
structure Location where
  area : Area
  bank : Byte
  page : Byte
  offset : Byte
deriving DecidableEq, Repr

/-- A location that may be absent. Its stored fields keep their values while it is absent. -/
structure OptLocation where
  present : Bool
  loc : Location
deriving DecidableEq, Repr

/-- One region entry (R36). -/
structure RegionEntry where
  used : Bool
  area : Area
  bankAny : Bool
  pageAny : Bool
  bank : Byte
  page : Byte
  first : Byte
  last : Byte
  writeClass : WriteClass
  readClass : ReadClass
  readBack : Bool
  settle : Nat
deriving DecidableEq, Repr

/-- One identity span or extra prefetch span (R38). A prefetch span has no role: its field stays at
the power-on value and nothing reads it. -/
structure Span where
  used : Bool
  loc : Location
  length : Nat
  role : Role
deriving DecidableEq, Repr

/-- The ready indicator (R39). -/
structure ReadyIndicator where
  present : Bool
  loc : Location
  mask : Byte
  value : Byte
deriving DecidableEq, Repr

/-- The lane monitor settings of a profile (R41), with the held bytes of the two thresholds (R184). -/
structure LaneSettings where
  count : Nat
  lane0 : OptLocation
  required : BitVec 8
  lit : Nat
  dark : Nat
  litHeld : Byte
  darkHeld : Byte
  litCount : Nat
  darkCount : Nat
deriving DecidableEq, Repr

/-- One region profile (R34). -/
structure Profile where
  pageSelect : Byte
  bankSelect : Option Byte
  writeDefault : WriteClass
  readDefault : ReadClass
  entries : Vector RegionEntry 16
  idSpans : Vector Span 4
  prefetch : Vector Span 4
  ready : ReadyIndicator
  bootDelay : Nat
  power : OptLocation
  probe : OptLocation
  lane : LaneSettings
  kin : KinPolicy
deriving DecidableEq, Repr

/-- What classification gives a byte that is not a select byte (R37): the entry that matched, or none
for the default region, and that region's settings. -/
structure Region where
  entry : Option (Fin 16)
  writeClass : WriteClass
  readClass : ReadClass
  readBack : Bool
  settle : Nat
deriving DecidableEq, Repr

/-! ## The access context (R6) -/

/-- A KNOWN module belief. UNKNOWN is `none`. -/
structure Belief where
  bank : Byte
  page : Byte
  ptr : Byte
deriving DecidableEq, Repr

structure Context where
  shadowBank : Byte
  shadowPage : Byte
  modulePage : Byte
  hostPtr : Byte
  pendingBank : Option Byte
  pendingPage : Option Byte
  belief : Option Belief
deriving DecidableEq, Repr

/-! ## Engine bursts (R21, R25 to R31) -/

/-- What a burst is for (R21). The power declaration read is an identification read. -/
inductive Purpose
  | poll
  | identity
  | prefetch
  | replayWrite
  | readBack
  | probe
  | sample
deriving DecidableEq, Repr

/-- A stretch of module memory that a burst reads or writes. -/
structure Target where
  loc : Location
  length : Nat
deriving DecidableEq, Repr

/-- A burst request (R21): `data` is none for a read and the bytes for a write. -/
structure Request where
  purpose : Purpose
  target : Target
  data : Option (List Byte)
deriving DecidableEq, Repr

/-- The request slot of a cage (R20): a request not yet handed DN*g*, or the running burst. -/
inductive Slot
  | empty
  | requested (agent : Agent) (request : Request)
  | running
deriving DecidableEq, Repr

/-- One byte on a downstream bus: the module address with its direction, an offset byte, a data byte
written, or a data byte read. -/
inductive DownByte
  | addressWrite
  | addressRead
  | offset (o : Byte)
  | data (v : Byte)
  | read
deriving DecidableEq, Repr

/-- Downstream transfers being sent one byte after another: `current` is the transfer in progress,
its first byte the one on the bus; `later` are the transfers after it. `cursor` is the offset its next
data byte lands on; `bankSet` and `pageSet` are the select bytes acknowledged in it (R7). `full` says
that every select the profile has is written, so that an UNKNOWN belief becomes `goal` at the end. -/
structure Job where
  current : List DownByte
  later : List (List DownByte)
  cursor : Byte
  bankSet : Option Byte
  pageSet : Option Byte
  full : Bool
  goal : Belief
deriving DecidableEq, Repr

inductive BurstPhase
  | select
  | data
  | restore (second : Bool)
  | ended
deriving DecidableEq, Repr

/-- The outcome of a burst (R30). -/
inductive BurstOutcome
  | complete
  | nacked
  | stalled
  | aborted
deriving DecidableEq, Repr

/-- How a restore failed (R29). -/
inductive RestoreFailure
  | nacked
  | stalled
deriving DecidableEq, Repr

/-- The burst that holds a downstream bus. `orphan`: the operation that raised it has ended, so its
report is discarded (R30). `spoiled`: a select offset or the binding changed under it, so the belief is
UNKNOWN at its end (R35). `aborting`: aborted, waiting for the byte on the bus to finish or for the module to
release DSCL (R31). `blind`: the belief was UNKNOWN at its save, so that its restore writes the host view in full
(R32). -/
structure Burst where
  cage : CageId
  agent : Agent
  request : Request
  bankSelect : Option Byte
  pageSelect : Byte
  bank : Byte
  page : Byte
  phase : BurstPhase
  job : Job
  outcome : Option BurstOutcome
  restoreFailed : Option RestoreFailure
  acked : Nat
  received : List Byte
  orphan : Bool
  spoiled : Bool
  aborting : Bool
  blind : Bool
deriving DecidableEq, Repr

/-- A burst's report to its agent (R30). -/
structure Report where
  request : Request
  bank : Byte
  page : Byte
  outcome : BurstOutcome
  acked : Nat
  received : List Byte
deriving DecidableEq, Repr

/-! ## The ports and the arbiter of a group (R3 to R24) -/

/-- The path of a transfer (R9). `uncovered` is the revealed or vacant path of R18; `control` is a read
that starts on a control page (R8); `refused` and `foreignRefused` are module-address and
foreign-address transfers refused at their address byte. -/
inductive Path
  | forwarded
  | foreign
  | concealed
  | uncovered
  | control
  | refused
  | foreignRefused
deriving DecidableEq, Repr

/-- What became of the relaying of a transfer: still relayed; a control-page select was taken (R8);
the module did not acknowledge the address (R11); the module stalled (R14). -/
inductive Relay
  | live
  | afterSelect
  | nacked
  | stalled
deriving DecidableEq, Repr

/-- What the host is held (stretched) for: nothing; DN*g* (R23); its own stalled module; a
resynchronisation (R7); or the module's answer to one byte (R4), at `address` to the transfer's own address byte. -/
inductive Hold
  | none
  | bus
  | release
  | resync (job : Job)
  | address
  | offset (o : Byte)
  | data (o v : Byte)
  | read (o : Byte) (hostAck : Bool)
deriving DecidableEq, Repr

/-- One data byte of a handed write (R49): its offset and value, the region fixed when it was
acknowledged (none for a select byte), and whether the module acknowledged it. `gap`: bytes of the transfer that are
not in the write stood between it and the byte before it (R49). -/
structure HandedByte where
  offset : Byte
  value : Byte
  region : Option Region
  acked : Bool
  gap : Bool
deriving DecidableEq, Repr

/-- One module byte on its way to the cache (R69): its key, its position and its read class. -/
structure CacheByte where
  key : Key
  pos : Fin 8
  value : Byte
  readClass : ReadClass
deriving DecidableEq, Repr

/-- The transfer in progress on an upstream port, from its address byte. -/
structure Transfer where
  /-- the seven address bits of its address byte, which a forwarded transfer sends downstream (R4, R13) -/
  address : BitVec 7
  read : Bool
  path : Path
  relay : Relay
  hold : Hold
  /-- the offset byte of a write transfer has been taken -/
  offsetSeen : Bool
  /-- the host has ended a read by not acknowledging a byte -/
  ended : Bool
  /-- R18 has refused a data byte of this transfer -/
  refusing : Bool
  /-- bank and page in effect at the transfer's start -/
  bank : Byte
  page : Byte
  /-- select bytes the module acknowledged in the downstream transfer (R7) -/
  bankSet : Option Byte
  pageSet : Option Byte
  /-- bytes relayed to the module, and bytes held as posted -/
  relayed : List HandedByte
  posted : List HandedByte
  /-- a byte has been passed over since the last byte held as posted (R49) -/
  gap : Bool
  /-- module bytes read, for the cache -/
  readBytes : List CacheByte
  /-- the cage's module was removed during the transfer, whose bytes no longer reach the cache (R69) -/
  moduleGone : Bool
  /-- a module-acknowledged byte lies in a RESET region (R11) -/
  resetSeen : Bool
  /-- captured less significant byte of a two-byte quantity (R184): page, offset, value -/
  capture : Option (ControlPage × Byte × Byte)
  /-- the cage left SERVING or HELD: the path to take at the next byte boundary (R10) -/
  cut : Option Path
deriving DecidableEq, Repr

/-- The transaction on an upstream port. `cage` is none when its START was refused (R3). `transfer` is
none until an address byte completes. -/
structure Transaction where
  cage : Option CageId
  transfer : Option Transfer
deriving DecidableEq, Repr

/-- What the part last drove for the host's byte: nothing, an acknowledge or not-acknowledge, or a
read byte. -/
inductive UpAnswer
  | released
  | ack
  | nack
  | data (v : Byte)
deriving DecidableEq, Repr

structure UpPort where
  transaction : Option Transaction
  answer : UpAnswer
deriving DecidableEq, Repr

/-- A downstream port (R5). `selected` is the cage whose DSEL is asserted; `stalled` says that the module
holds DSCL past the module-wait limit; `wait` measures how long the byte on the bus has been
unanswered; `lastAck` is the acknowledge last given to a module's read byte. -/
structure DownPort where
  selected : Option CageId
  stalled : Bool
  wait : Option Timer
  lastAck : Bool
deriving DecidableEq, Repr

/-- The owner of a downstream bus (R20). `host k ended`: a forwarded host transaction of cage `k`; `ended`
says that it has ended and its stalled module still holds DSCL (R24). -/
inductive Owner
  | idle
  | host (k : CageId) (ended : Bool)
  | burst (k : CageId)
deriving DecidableEq, Repr

/-- The waiting host (R20, R23) with its host-wait timer. -/
structure WaitingHost where
  cage : CageId
  timer : Timer
deriving DecidableEq, Repr

structure Group where
  up : UpPort
  down : DownPort
  owner : Owner
  waiting : Option WaitingHost
  lastServed : SlotId
  burst : Option Burst
deriving DecidableEq, Repr

/-! ## The Write Journal (R45, R47) -/

inductive RecordClass
  | retain
  | sequence
deriving DecidableEq, Repr

inductive Mark
  | pending
  | applied
  | failed
deriving DecidableEq, Repr

structure Record where
  key : Key
  cls : RecordClass
  cells : Octet
  mark : Mark
deriving DecidableEq, Repr

/-- A cage's journal. `target` is the replay target: a list position and the disturbed flag (R57). -/
structure Journal where
  list : List Record
  incomplete : Bool
  frozen : Bool
  quota : Nat
  target : Option (Nat × Bool)
deriving DecidableEq, Repr

/-! ## The Page Cache (R66, R68) -/

inductive LineState
  | valid
  | stale
deriving DecidableEq, Repr

/-- A cache line in use. The pool's order is the order of the list, least recently used first (R67). -/
structure Line where
  owner : CageId
  key : Key
  kind : ReadClass
  state : LineState
  cells : Octet
deriving DecidableEq, Repr

inductive Standing
  | matched
  | unmatched
deriving DecidableEq, Repr

/-! ## Presence and cage lines (R79, R89) -/

inductive Phase
  | absent
  | settling
  | settleDrop
  | present
  | presentDrop
deriving DecidableEq, Repr

/-- The Presence Qualifier. `absence` is the absence measurement: running with its elapsed ms, or none
while stopped. -/
structure Qualifier where
  phase : Phase
  present : Bool
  interrupt : Bool
  timer : Option Timer
  bounces : Nat
  unstable : Bool
  absence : Option Nat
  absenceAtRise : Option Nat
deriving DecidableEq, Repr

inductive LineOwner
  | engine
  | host
deriving DecidableEq, Repr

/-- The Cage Line Unit. A Bool level is true when the line is asserted. -/
structure CageLines where
  mrstOwner : LineOwner
  mrst : Bool
  mlowOwner : LineOwner
  mlow : Bool
  pulse : Option Timer
  hpd : Bool
  hirq : Bool
deriving DecidableEq, Repr

/-! ## The Cage Sequencer (R97) and its operations (R125 to R142) -/

inductive SeqState
  | vacant
  | settling
  | booting
  | identifying
  | admitting
  | ramping
  | replaying
  | verifying
  | serving
  | held
deriving DecidableEq, Repr

inductive RecoveryKind
  | first
  | reseat
  | silent
  | moduleReset
  | resume
  | forced
deriving DecidableEq, Repr

inductive HoldReason
  | none
  | bootTimeout
  | identityUnread
  | kin
  | foreign
  | learnOnly
  | overCeiling
  | rampTimeout
  | journalIncomplete
  | replayMismatch
  | moduleUnresponsive
deriving DecidableEq, Repr

inductive IdOutcome
  | none
  | first
  | same
  | unchecked
  | kin
  | foreign
  | unread
deriving DecidableEq, Repr

inductive WaitKind
  | bootTimeout
  | bootDelay
  | rampTimeout
  | rampDelay
deriving DecidableEq, Repr

/-- A used slot of an identity baseline; its length is the length of its bytes (R125). -/
structure BaselineSlot where
  role : Role
  bytes : List Byte
deriving DecidableEq, Repr

/-- The four slots of a present baseline; an empty slot is none (R125). -/
abbrev Baseline := Vector (Option BaselineSlot) 4

/-- The Cage Sequencer. `serveCheck`: the serving check is due (R107). `identified`: the module has had an
identification outcome since it was inserted (R68). `verified`: the recovery has entered VERIFYING since
its latest entry to BOOTING (R167). -/
structure Sequencer where
  state : SeqState
  recovery : Option RecoveryKind
  clock : Option Nat
  holdReason : HoldReason
  outcome : IdOutcome
  concealed : Bool
  concealTimer : Option Timer
  revealTimer : Option Timer
  waitTimer : Option (WaitKind × Timer)
  dim : Bool
  baseline : Option Baseline
  declared : Option Byte
  probeTimer : Option Timer
  serveCheck : Bool
  identified : Bool
  verified : Bool
deriving DecidableEq, Repr

/-- Readiness polling under way (R127): the mask and value of the latest poll, and the poll timer. -/
structure Polling where
  mask : Byte
  value : Byte
  timer : Option Timer
deriving DecidableEq, Repr

/-- One read of an identification (R128). -/
inductive IdRead
  | span (slot : Fin 4) (role : Role) (target : Target)
  | power (target : Target)
  | prefetch (target : Target)
deriving DecidableEq, Repr

/-- An identification under way (R128): the reads still to do, first the one under way; the identity
bytes read; whether a span was USED at entry; the bytes held for the cache of the reads done or given up, and those of
the STALLED attempts of the read under way; the failure count. -/
structure Identification where
  todo : List IdRead
  got : Baseline
  anySpan : Bool
  held : List CacheByte
  attempt : List CacheByte
  failures : Nat
deriving DecidableEq, Repr

inductive CursorPhase
  | idle
  | write
  | readBack
  | settle
deriving DecidableEq, Repr

/-- A run of a record (R134): its first position and its length. -/
structure Run where
  first : Nat
  length : Nat
deriving DecidableEq, Repr

/-- The replay cursor (R132). `runs` are the runs of the current record still to write, first the one
being written; `carried` is the data its last write burst carried, and `check` whether it is read back, taken with
its part of `settle` as its first write burst is raised and kept (R44).
`resumed`: the replay is a resumed one (R107). -/
structure Cursor where
  position : Option Nat
  passes : Nat
  phase : CursorPhase
  runs : List Run
  rewrites : Nat
  failures : Nat
  settle : Nat
  timer : Option Timer
  carried : List Byte
  check : Bool
  resumed : Bool
deriving DecidableEq, Repr

/-- A state probe under way (R140). -/
structure Probe where
  glitch : Bool
  loc : Location
  failures : Nat
deriving DecidableEq, Repr

/-- What a glitch probe waits behind (R142): the report of the periodic probe it ended, or a baseline
capture. -/
inductive GlitchWait
  | report
  | capture
deriving DecidableEq, Repr

inductive CaptureOrigin
  | adopt
  | clear
  | forced
deriving DecidableEq, Repr

/-- A baseline capture under way (R131). -/
structure Capture where
  origin : CaptureOrigin
  todo : List (Fin 4 × Role × Target)
  got : Baseline
  held : List CacheByte
  failures : Nat
deriving DecidableEq, Repr

/-- The sequencer's operations under way. `retry` is the sequencer's retry interval (R33). -/
structure Operations where
  polling : Option Polling
  identification : Option Identification
  cursor : Cursor
  probe : Option Probe
  glitchWait : Option GlitchWait
  capture : Option Capture
  retry : Option Timer
deriving DecidableEq, Repr

/-! ## The Light Monitor (R159) -/

inductive Activity
  | idle
  | verify
  | monitor
deriving DecidableEq, Repr

structure Lane where
  lit : Bool
  litRun : Nat
  darkRun : Nat
  band : Nat
deriving DecidableEq, Repr

/-- A sample under way (R160): its request, the number of lanes it reads, its failure count, and its
retry interval when one runs. -/
structure Sample where
  request : Request
  lanes : Nat
  failures : Nat
  retry : Option Timer
deriving DecidableEq, Repr

structure LightMonitor where
  activity : Activity
  sampleTimer : Option Timer
  lightTimeout : Option Timer
  failedRun : Nat
  lanes : Vector Lane 8
  sample : Option Sample
deriving DecidableEq, Repr

/-! ## Power admission (R144, R145, R149) -/

structure Ledger where
  charge : Nat
  grant : Bool
  computed : Option Nat
  overCeiling : Bool
deriving DecidableEq, Repr

/-- An entry of the wait queue; the queue's order is the order of the list, so that the arrival of equal
priorities is their order (R149). -/
structure QueueEntry where
  cage : CageId
  priority : Nat
  passed : Nat
deriving DecidableEq, Repr

/-! ## Settings, events and the control pages (R144, R172 to R188) -/

/-- The settings of a cage: ceiling and priority (R144), conceal limit (R124). The quota is in the
journal (R47). -/
structure CageSettings where
  ceiling : Nat
  priority : Nat
  concealLimit : Nat
deriving DecidableEq, Repr

/-- A cage's snapshot record (R180). -/
structure CageSnapshot where
  taken : Bool
  counters : Vector Nat 21
  lastAbsence : Nat
  lastRecovery : Nat
deriving DecidableEq, Repr

structure DeviceSnapshot where
  taken : Bool
  counters : Vector Nat 4
deriving DecidableEq, Repr

/-- The flags, enables, counters (in the order of R177), measurements and snapshot of a cage. -/
structure Events where
  flags : BitVec 9
  enables : BitVec 9
  counters : Vector Nat 21
  lastAbsence : Nat
  lastRecovery : Nat
  snapshot : CageSnapshot
deriving DecidableEq, Repr

/-- The command area and window selector of a cage (R186, R188). -/
structure ControlArea where
  arg0 : Byte
  arg1 : Byte
  command : Byte
  result : Byte
  windowKind : Nat
  windowIndex : Byte
deriving DecidableEq, Repr

/-- One cage: everything the part keeps once per cage. -/
structure Cage where
  ctx : Context
  qual : Qualifier
  lines : CageLines
  seq : Sequencer
  ops : Operations
  light : LightMonitor
  ledger : Ledger
  journal : Journal
  standing : Standing
  binding : ProfileId
  settings : CageSettings
  events : Events
  control : ControlArea
  slot : Slot
  /-- agents waiting for the slot, the one that began waiting first at the head (R21) -/
  slotQueue : List (Agent × Request)
deriving DecidableEq, Repr

/-- The device settings (R33, R88, R90, R124, R143, R144, R171), in their own units, with the budget's held
byte (R184). -/
structure DeviceSettings where
  budget : Nat
  budgetHeld : Byte
  idleCharge : Nat
  margin : Nat
  bypassLimit : Nat
  retryInterval : Nat
  retryLimit : Nat
  hostWait : Nat
  moduleWait : Nat
  removalQualify : Nat
  settleBase : Nat
  bounceLimit : Nat
  resetPulse : Nat
  bootTimeout : Nat
  rampTimeout : Nat
  revealMinimum : Nat
  readyPoll : Nat
  readBackRetry : Nat
  probePeriod : Nat
  lightPoll : Nat
  monitorPeriod : Nat
  lightTimeout : Nat
deriving DecidableEq, Repr

inductive Mode
  | recover
  | learn
deriving DecidableEq, Repr

/-- The straps as sampled at the latest start-up (R182); true is tied high. -/
structure Straps where
  maddr : Bool
  mode : Bool
  cpage : BitVec 2
deriving DecidableEq, Repr

/-! ## The whole part -/

/-- The state of the part. `alert` is the ALERT output, `inReset` whether RESET_N is asserted. `ties` is the
model's own counter of the moments `Config.tieBreak` decides, and `pending` the queue of commands
that wait. -/
structure State where
  cages : Vector Cage 16
  groups : Vector Group 4
  profiles : Vector Profile 4
  cache : List Line
  queue : List QueueEntry
  committed : Nat
  settings : DeviceSettings
  mode : Mode
  straps : Straps
  flags : BitVec 3
  enables : BitVec 3
  counters : Vector Nat 4
  snapshot : DeviceSnapshot
  alert : Bool
  inReset : Bool
  ties : Nat
  pending : List Instr
deriving DecidableEq, Repr

/-- Why the machine stops with a fault: never. The manual gives every one of its steps an effect, so no
command of this block faults and the type has no constructor. -/
inductive Fault
deriving DecidableEq, Repr

/-- Why a command is refused by the model. -/
inductive Refusal
  /-- Raised only by an arm of `exec` whose command has no meaning yet (safe: nothing is claimed of it). -/
  | notModelled (mnemonic : String)
deriving DecidableEq, Repr

/-! ## Reset values (R190 and the tables it names) -/

def Location.reset : Location := { area := .lower, bank := 0#8, page := 0#8, offset := 0#8 }

def RegionEntry.reset : RegionEntry :=
  { used := false, area := .lower, bankAny := true, pageAny := true, bank := 0#8, page := 0#8,
    first := 0#8, last := 0#8, writeClass := .retain, readClass := .live, readBack := false, settle := 0 }

def Span.reset : Span := { used := false, loc := Location.reset, length := 1, role := .model }

def OptLocation.reset : OptLocation := { present := false, loc := Location.reset }

/-- The default profile (R34). -/
def Profile.reset : Profile :=
  { pageSelect := 127#8, bankSelect := some 126#8, writeDefault := .retain, readDefault := .live,
    entries := Vector.replicate 16 RegionEntry.reset,
    idSpans := Vector.replicate 4 Span.reset,
    prefetch := Vector.replicate 4 Span.reset,
    ready := { present := false, loc := Location.reset, mask := 0#8, value := 0#8 },
    bootDelay := 20, power := OptLocation.reset, probe := OptLocation.reset,
    lane :=
      { count := 0, lane0 := OptLocation.reset, required := 0#8, lit := 300, dark := 100,
        litHeld := 1#8, darkHeld := 0#8, litCount := 3, darkCount := 3 },
    kin := .hold }

def Context.reset : Context :=
  { shadowBank := 0#8, shadowPage := 0#8, modulePage := 0#8, hostPtr := 0#8,
    pendingBank := none, pendingPage := none, belief := none }

def Qualifier.reset : Qualifier :=
  { phase := .absent, present := false, interrupt := false, timer := none, bounces := 0,
    unstable := false, absence := none, absenceAtRise := none }

def CageLines.reset : CageLines :=
  { mrstOwner := .engine, mrst := true, mlowOwner := .engine, mlow := true, pulse := none,
    hpd := false, hirq := false }

def Sequencer.reset : Sequencer :=
  { state := .vacant, recovery := none, clock := none, holdReason := .none, outcome := .none,
    concealed := false, concealTimer := none, revealTimer := none, waitTimer := none, dim := false,
    baseline := none, declared := none, probeTimer := none, serveCheck := false,
    identified := false, verified := false }

/-- The idle replay cursor (R132). -/
def Cursor.reset : Cursor :=
  { position := none, passes := 0, phase := .idle, runs := [], rewrites := 0, failures := 0,
    settle := 0, timer := none, carried := [], check := false, resumed := false }

/-- No operation under way. -/
def Operations.reset : Operations :=
  { polling := none, identification := none, cursor := Cursor.reset, probe := none,
    glitchWait := none, capture := none, retry := none }

def Lane.reset : Lane := { lit := false, litRun := 0, darkRun := 0, band := 0 }

def LightMonitor.reset : LightMonitor :=
  { activity := .idle, sampleTimer := none, lightTimeout := none, failedRun := 0,
    lanes := Vector.replicate 8 Lane.reset, sample := none }

def Ledger.reset : Ledger := { charge := 0, grant := false, computed := none, overCeiling := false }

def Journal.reset : Journal :=
  { list := [], incomplete := false, frozen := false, quota := 64, target := none }

def Events.reset : Events :=
  { flags := 0#9, enables := 511#9, counters := Vector.replicate 21 0, lastAbsence := 0,
    lastRecovery := 0,
    snapshot :=
      { taken := false, counters := Vector.replicate 21 0, lastAbsence := 0, lastRecovery := 0 } }

def ControlArea.reset : ControlArea :=
  { arg0 := 0#8, arg1 := 0#8, command := 0#8, result := 0#8, windowKind := 0, windowIndex := 0#8 }

def Cage.reset : Cage :=
  { ctx := Context.reset, qual := Qualifier.reset, lines := CageLines.reset, seq := Sequencer.reset,
    ops := Operations.reset, light := LightMonitor.reset, ledger := Ledger.reset,
    journal := Journal.reset, standing := .unmatched, binding := 0,
    settings := { ceiling := 120, priority := 0, concealLimit := 120 },
    events := Events.reset, control := ControlArea.reset, slot := .empty, slotQueue := [] }

/-- An idle group (R5, R20): last served 3, so that slot 0 is looked at first. -/
def Group.reset : Group :=
  { up := { transaction := none, answer := .released },
    down := { selected := none, stalled := false, wait := none, lastAck := false },
    owner := .idle, waiting := none, lastServed := 3, burst := none }

def DeviceSettings.reset : DeviceSettings :=
  { budget := 320, budgetHeld := 1#8, idleCharge := 6, margin := 10, bypassLimit := 2,
    retryInterval := 10, retryLimit := 10, hostWait := 20, moduleWait := 50,
    removalQualify := 20, settleBase := 25, bounceLimit := 4, resetPulse := 10,
    bootTimeout := 90, rampTimeout := 30, revealMinimum := 50,
    readyPoll := 25, readBackRetry := 3, probePeriod := 5,
    lightPoll := 10, monitorPeriod := 10, lightTimeout := 20 }

/-- The start-up state under the given straps (R190): the mode is the MODE strap's. -/
def State.startUp (straps : Straps) : State :=
  { cages := Vector.replicate 16 Cage.reset, groups := Vector.replicate 4 Group.reset,
    profiles := Vector.replicate 4 Profile.reset, cache := [], queue := [], committed := 0,
    settings := DeviceSettings.reset, mode := if straps.mode then .learn else .recover,
    straps := straps, flags := 0#3, enables := 7#3, counters := Vector.replicate 4 0,
    snapshot := { taken := false, counters := Vector.replicate 4 0 },
    alert := false, inReset := false, ties := 0, pending := [] }

/-- The part right after reset: started up, no command waiting. The straps are inputs, and the model ties
each of them low (assumption 1). -/
def State.reset : State := State.startUp { maddr := false, mode := false, cpage := 0#2 }

end Sys2Proof.Machine
end

