-- ==== Sys2Proof/Machine/Operands.lean ====
section
/-! DEFINITION. How a byte is addressed and classified: the pointer's advance (R1), keys (R2), control
pages (R2, R182), profile classification (R37), spans (R38), the ready indicator (R39), lanes (R41), and
blocks of eight positions. -/

namespace Sys2Proof.Machine

/-! ## Cages and groups (00_scope, Conventions) -/

/-- The group of cage `k`: `k` div 4. -/
def groupOf (k : CageId) : GroupId := ⟨k.val / 4, by omega⟩

/-- The slot of cage `k` in its group: `k` mod 4. -/
def slotOf (k : CageId) : SlotId := ⟨k.val % 4, by omega⟩

/-- The cage in slot `n` of group `g`. -/
def cageAt (g : GroupId) (n : SlotId) : CageId := ⟨4 * g.val + n.val, by omega⟩

/-- The sixteen cages in order. -/
def allCages : List CageId := List.finRange 16

/-! ## Offsets (R1, R2) -/

/-- The upper area: offsets 128 to 255. -/
def isUpper (o : Byte) : Bool := decide (128 ≤ o.toNat)

/-- R1: the pointer advances by one, and from 255 back to 128. -/
def ptrNext (o : Byte) : Byte := if o = 255#8 then 128#8 else o + 1#8

/-- The block of an offset: the offset div 8. -/
def blockOf (o : Byte) : Fin 32 := ⟨o.toNat / 8, by have := o.isLt; omega⟩

/-- The position of an offset in its block. -/
def posOf (o : Byte) : Fin 8 := ⟨o.toNat % 8, by omega⟩

/-- R2: the key of the byte at offset `o` under bank `bank` and page `page`. -/
def keyAt (bank page o : Byte) : Key :=
  if isUpper o then .upper bank page (blockOf o) else .lower (blockOf o)

/-- The area and the first offset of a key's block. -/
def Key.area : Key → Area
  | .lower _ => .lower
  | .upper _ _ _ => .upper

def Key.block : Key → Fin 32
  | .lower b => b
  | .upper _ _ b => b

def Key.bank : Key → Byte
  | .lower _ => 0#8
  | .upper b _ _ => b

def Key.page : Key → Byte
  | .lower _ => 0#8
  | .upper _ p _ => p

/-- The offset of position `p` of a key's block. -/
def Key.offset (k : Key) (p : Nat) : Byte := BitVec.ofNat 8 (k.block.val * 8 + p)

/-- The key of a location's byte. For a LOWER location bank and page take no part (3.1). -/
def Location.key (l : Location) : Key :=
  match l.area with
  | .lower => .lower (blockOf l.offset)
  | .upper => .upper l.bank l.page (blockOf l.offset)

/-- The `n` offsets from `o` on, each the advance of the one before (R1). -/
def offsetsFrom (o : Byte) : Nat → List Byte
  | 0 => []
  | n + 1 => o :: offsetsFrom (ptrNext o) n

/-! ## Straps and control pages (R2, R182) -/

/-- The CTRL page number: 0xB0, 0xB8, 0xC0 or 0xC8. -/
def Straps.ctrlPage (t : Straps) : Byte := BitVec.ofNat 8 (176 + 8 * t.cpage.toNat)

/-- The module device address: 0x50 or 0x54. -/
def Straps.moduleAddress (t : Straps) : BitVec 7 := if t.maddr then 84#7 else 80#7

/-- Which control page a page number is, if it is one. -/
def Straps.controlPage (t : Straps) (page : Byte) : Option ControlPage :=
  if page = t.ctrlPage then some .ctrl
  else if page = t.ctrlPage + 1#8 then some .window
  else none

/-- The control page on which the byte at offset `o` of page `page` lies: only in the upper area (R8). -/
def Straps.controlByte (t : Straps) (page o : Byte) : Option ControlPage :=
  if isUpper o then t.controlPage page else none

/-! ## Classification (R36, R37) -/

/-- R37.1: a byte at the profile's page-select offset, or at its bank-select offset if it has one. -/
def Profile.isSelect (p : Profile) (o : Byte) : Bool :=
  decide (o = p.pageSelect) || decide (p.bankSelect = some o)

/-- The bank that upper-area keys carry: 0 when the profile has no bank-select offset (R2, R26). -/
def Profile.keyBank (p : Profile) (bank : Byte) : Byte :=
  if p.bankSelect.isSome then bank else 0#8

/-- R36, R37.2: whether a region entry matches the byte at offset `o` under `bank` and `page`. -/
def RegionEntry.covers (e : RegionEntry) (bank page o : Byte) : Bool :=
  e.used && decide (e.first.toNat ≤ o.toNat) && decide (o.toNat ≤ e.last.toNat) &&
    match e.area with
    | .lower => !isUpper o
    | .upper =>
      isUpper o && (e.bankAny || decide (bank = e.bank)) && (e.pageAny || decide (page = e.page))

/-- The first entry, in table order, that matches (R37.2). -/
def Profile.findEntry (p : Profile) (bank page o : Byte) : Option (Fin 16) :=
  (List.finRange 16).find? fun i => p.entries[i].covers bank page o

/-- The region of a byte that is not a select byte: the first matching entry, else DEFAULT (R37.2, 3). -/
def Profile.region (p : Profile) (bank page o : Byte) : Region :=
  match p.findEntry bank page o with
  | some i =>
    { entry := some i, writeClass := p.entries[i].writeClass, readClass := p.entries[i].readClass,
      readBack := p.entries[i].readBack, settle := p.entries[i].settle }
  | none =>
    { entry := none, writeClass := p.writeDefault, readClass := p.readDefault, readBack := false,
      settle := 0 }

/-- R37: a byte's region, or none for a select byte. -/
def Profile.classify (p : Profile) (bank page o : Byte) : Option Region :=
  if p.isSelect o then none else some (p.region bank page o)

/-- Whether a byte has the given write class; a select byte has none. -/
def writeClassIs (r : Option Region) (c : WriteClass) : Bool :=
  match r with
  | some r => decide (r.writeClass = c)
  | none => false

/-- A byte of write class RETAIN or SEQUENCE, which the journal keeps (R16, R50). -/
def isJournaled (r : Option Region) : Bool := writeClassIs r .retain || writeClassIs r .sequence

/-! ## Spans, locations and lanes (R38 to R41) -/

/-- The first offset past an area. -/
def Area.limit : Area → Nat
  | .lower => 128
  | .upper => 256

/-- R38: the effective length, which stays within the area. -/
def Span.effective (sp : Span) : Nat := min sp.length (sp.loc.area.limit - sp.loc.offset.toNat)

def Span.target (sp : Span) : Target := { loc := sp.loc, length := sp.effective }

/-- The one byte at a location, as a burst's target. -/
def Location.target (l : Location) : Target := { loc := l, length := 1 }

/-- The location of a field that may be absent. -/
def OptLocation.get? (l : OptLocation) : Option Location := if l.present then some l.loc else none

/-- R39: the module is ready when the byte's bits selected by the mask equal the value's. -/
def readyByte (mask value byte : Byte) : Bool := decide (byte &&& mask = value &&& mask)

/-- R41: the effective lane count. -/
def Profile.lanes (p : Profile) : Nat :=
  match p.lane.lane0.get? with
  | none => 0
  | some l => min p.lane.count ((l.area.limit - l.offset.toNat) / 2)

/-- R41: whether lane `n` is in the effective required-lane mask. -/
def Profile.requires (p : Profile) (n : LaneId) : Bool :=
  p.lane.required.getLsbD n.val && decide (n.val < p.lanes)

/-- R41, R105: whether the effective required-lane mask is non-zero. -/
def Profile.requiresAny (p : Profile) : Bool := (List.finRange 8).any p.requires

/-- R40: the probe location, when it is usable: present, no select offset, and of write class RETAIN. -/
def Profile.usableProbe (p : Profile) : Option Location :=
  match p.probe.get? with
  | none => none
  | some l => if writeClassIs (p.classify l.bank l.page l.offset) .retain then some l else none

/-! ## Blocks of eight positions (R45, R66) -/

def emptyOctet : Octet := Vector.replicate 8 none

/-- The bytes of `new` over the bytes of `old`. -/
def Octet.over (new old : Octet) : Octet := Vector.ofFn fun i : Fin 8 => new[i].or old[i]

/-- One byte at one position. -/
def Octet.put (o : Octet) (p : Fin 8) (v : Byte) : Octet := o.set p (some v)

/-- The mask as a byte: bit `p` for position `p` (R187). -/
def Octet.mask (o : Octet) : Byte :=
  (List.finRange 8).foldl (fun m i => if o[i].isSome then m ||| (1#8 <<< i.val) else m) 0#8

/-- Two blocks with the same mask (R54). -/
def Octet.sameMask (a b : Octet) : Bool :=
  (List.finRange 8).all fun i => a[i].isSome == b[i].isSome

/-- R45: a position outside the mask reads 0. -/
def Octet.byte (o : Octet) (p : Fin 8) : Byte := o[p].getD 0#8

/-! ## The cache bytes of an engine read (R37, R70) -/

/-- The bytes a read burst returned, keyed and classified for the cache: the target bank and page of the
burst, the class in force now; bytes at a select offset have none and are left out. -/
def Profile.cacheBytes (p : Profile) (bank page first : Byte) (bytes : List Byte) : List CacheByte :=
  ((offsetsFrom first bytes.length).zip bytes).filterMap fun (o, v) =>
    match p.classify bank page o with
    | none => none
    | some r => some { key := keyAt bank page o, pos := posOf o, value := v, readClass := r.readClass }

/-! ## Numbers -/

/-- Raise a 16-bit counter, which stays at 65535 (R177). -/
def satAdd (x n : Nat) : Nat := min Config.counterMax (x + n)

/-- R185: a number clamped to its range. -/
def clampTo (lo hi x : Nat) : Nat := max lo (min hi x)

/-- The more and less significant bytes of a 16-bit quantity (R184). -/
def hiByte (x : Nat) : Byte := BitVec.ofNat 8 (x / 256)

def loByte (x : Nat) : Byte := BitVec.ofNat 8 x

/-- The value of a pair of bytes, the more significant first (R184). -/
def wordOf (hi lo : Byte) : Nat := hi.toNat * 256 + lo.toNat

/-- A byte of eight flags, bit `n` from `f n`. -/
def bitsOf (f : Nat → Bool) : Byte :=
  (List.range 8).foldl (fun m i => if f i then m ||| (1#8 <<< i) else m) 0#8

/-- One flag as a number. -/
def flagByte (b : Bool) : Byte := if b then 1#8 else 0#8

/-- The number of binary digits of a raw value: the band (R161). -/
def bandOf (x : Nat) : Nat := if x = 0 then 0 else Nat.log2 x + 1

/-! ## Timers -/

/-- A timer starting now with the given duration in ms. -/
def Timer.start (ms : Nat) : Timer := { duration := ms, elapsed := 0 }

/-- A timer whose time has run. -/
def Timer.due (t : Timer) : Bool := decide (t.duration ≤ t.elapsed)

end Sys2Proof.Machine
end

