-- ==== Sys2Proof/Machine/Flags.lean ====
section
/-! DEFINITION. Event flags, enables, the cage summary and ALERT (R172 to R176); counters,
measurements and snapshots (R177 to R181). -/

namespace Sys2Proof.Machine

/-! ## Cage flags (R172): bits 0 to 7 are the byte at 183, bit 8 is bit 0 of the byte at 184 -/

inductive CageFlag
  | presence
  | recovered
  | held
  | revealed
  | light
  | journal
  | glitch
  | unstable
  | waiting
deriving DecidableEq, Repr

def CageFlag.index : CageFlag → Nat
  | .presence => 0
  | .recovered => 1
  | .held => 2
  | .revealed => 3
  | .light => 4
  | .journal => 5
  | .glitch => 6
  | .unstable => 7
  | .waiting => 8

/-- R174: the flag is set, whether or not it was set already. -/
def Events.latch (e : Events) (f : CageFlag) : Events :=
  { e with flags := e.flags ||| (1#9 <<< f.index) }

/-- R174 for a cage. -/
def Cage.latch (c : Cage) (f : CageFlag) : Cage := { c with events := c.events.latch f }

/-- R176: the cage's summary entry: a flag both latched and enabled. -/
def Events.summary (e : Events) : Bool := decide (e.flags &&& e.enables ≠ 0#9)

/-! ## Device flags (R173) -/

inductive DeviceFlag
  | selectConflict
  | overcommit
  | poolEmpty
deriving DecidableEq, Repr

def DeviceFlag.index : DeviceFlag → Nat
  | .selectConflict => 0
  | .overcommit => 1
  | .poolEmpty => 2

def State.latchDevice (s : State) (f : DeviceFlag) : State :=
  { s with flags := s.flags ||| (1#3 <<< f.index) }

/-! ## ALERT (R176) -/

/-- The condition of ALERT: a set summary entry, or a device flag both latched and enabled. -/
def State.alertCondition (s : State) : Bool :=
  (allCages.any fun k => s.cages[k].events.summary) || decide (s.flags &&& s.enables ≠ 0#3)

/-- ALERT changes at the event that changes its condition. -/
def State.driveAlert (s : State) : State := { s with alert := s.alertCondition }

/-- R176: the cage summary, bit `k` for cage `k`. -/
def State.summary (s : State) : Nat :=
  allCages.foldl (fun n k => if s.cages[k].events.summary then n + 2 ^ k.val else n) 0

/-! ## Counters (R177, R178), in the order of R177 -/

inductive CageCounter
  | insertions
  | removals
  | bounces
  | glitches
  | recoveries
  | holds
  | recordsReplayed
  | postedWrites
  | discardedWrites
  | unservedBytes
  | journalOverflows
  | engineNacks
  | moduleStalls
  | darkEvents (lane : LaneId)
deriving DecidableEq, Repr

def CageCounter.index : CageCounter → Fin 21
  | .insertions => 0
  | .removals => 1
  | .bounces => 2
  | .glitches => 3
  | .recoveries => 4
  | .holds => 5
  | .recordsReplayed => 6
  | .postedWrites => 7
  | .discardedWrites => 8
  | .unservedBytes => 9
  | .journalOverflows => 10
  | .engineNacks => 11
  | .moduleStalls => 12
  | .darkEvents n => ⟨13 + n.val, by omega⟩

/-- R177: `n` counts of a cage counter. -/
def Events.countN (e : Events) (i : CageCounter) (n : Nat) : Events :=
  { e with counters := e.counters.set i.index (satAdd e.counters[i.index] n) }

def Cage.countN (c : Cage) (i : CageCounter) (n : Nat) : Cage :=
  { c with events := c.events.countN i n }

/-- R177: one count. -/
def Cage.count (c : Cage) (i : CageCounter) : Cage := c.countN i 1

inductive DeviceCounter
  | grants
  | bypasses
  | abandoned
  | selectConflicts
deriving DecidableEq, Repr

def DeviceCounter.index : DeviceCounter → Fin 4
  | .grants => 0
  | .bypasses => 1
  | .abandoned => 2
  | .selectConflicts => 3

/-- R178: `n` counts of a device counter. -/
def State.countDevice (s : State) (i : DeviceCounter) (n : Nat) : State :=
  { s with counters := s.counters.set i.index (satAdd s.counters[i.index] n) }

/-! ## Snapshots (R181) -/

/-- SNAPSHOT of a cage: counters and measurements copied, TAKEN set, counters zeroed. -/
def Events.takeSnapshot (e : Events) : Events :=
  { e with
    snapshot :=
      { taken := true, counters := e.counters, lastAbsence := e.lastAbsence,
        lastRecovery := e.lastRecovery }
    counters := Vector.replicate 21 0 }

/-- SNAPSHOT of the device. -/
def State.takeDeviceSnapshot (s : State) : State :=
  { s with
    snapshot := { taken := true, counters := s.counters }
    counters := Vector.replicate 4 0 }

/-! ## The flag and enable bytes as the host writes them (R175, R176) -/

/-- R175: ones clear the low flag byte's flags (offset 183). -/
def Events.clearLow (e : Events) (v : Byte) : Events :=
  { e with flags := e.flags &&& ~~~(v.setWidth 9) }

/-- R175: bit 0 clears WAITING (offset 184). -/
def Events.clearHigh (e : Events) (v : Byte) : Events :=
  { e with flags := e.flags &&& ~~~((v &&& 1#8).setWidth 9 <<< 8) }

/-- R176: the low enable byte (offset 185). -/
def Events.enableLow (e : Events) (v : Byte) : Events :=
  { e with enables := (e.enables &&& 256#9) ||| v.setWidth 9 }

/-- R176: the high enable byte (offset 186). -/
def Events.enableHigh (e : Events) (v : Byte) : Events :=
  { e with enables := (e.enables &&& 255#9) ||| ((v &&& 1#8).setWidth 9 <<< 8) }

end Sys2Proof.Machine
end

