-- ==== Sys2Proof/Machine/Ops.lean ====
section
/-! DEFINITION. The shared operations every meaning is written over: reading and replacing one cage, one
group or one profile, the levels of the cage lines (R89, R94, R95), the wrapper of a command's effect,
and the acceptance of pending selects (R6). -/

namespace Sys2Proof.Machine

/-! ## Cage lines (R89, R94, R95) -/

def SeqState.inService (q : SeqState) : Bool := decide (q = .serving) || decide (q = .held)

/-- The states of a recovery past its settle: BOOTING to VERIFYING. -/
def SeqState.recovering : SeqState → Bool
  | .booting | .identifying | .admitting | .ramping | .replaying | .verifying => true
  | _ => false

/-- R89: MRST's engine level: asserted in VACANT and SETTLING, and while a reset pulse runs. -/
def Cage.mrstEngine (c : Cage) : Bool :=
  decide (c.seq.state = .vacant) || decide (c.seq.state = .settling) || c.lines.pulse.isSome

/-- R89: MLOW's engine level: asserted unless the cage holds a grant. -/
def Cage.mlowEngine (c : Cage) : Bool := !c.ledger.grant

/-- R94: HPD is asserted in SERVING or HELD with no reveal-minimum interval running, and while the
recovery is concealed. -/
def Cage.hpdLevel (c : Cage) : Bool :=
  (c.seq.state.inService && c.seq.revealTimer.isNone) || c.seq.concealed

/-- R95: HIRQ takes the sampled interrupt in SERVING and HELD, and is deasserted elsewhere. -/
def Cage.hirqLevel (c : Cage) : Bool := c.seq.state.inService && c.qual.interrupt

/-- The lines brought to their levels: the latch of an ENGINE-owned line follows its engine level, that of
a HOST-owned line keeps the host's; HPD and HIRQ follow R94 and R95. -/
def Cage.driveLines (c : Cage) : Cage :=
  { c with
    lines :=
      { c.lines with
        mrst := if c.lines.mrstOwner = .engine then c.mrstEngine else c.lines.mrst
        mlow := if c.lines.mlowOwner = .engine then c.mlowEngine else c.lines.mlow
        hpd := c.hpdLevel
        hirq := c.hirqLevel } }

/-! ## Reading and replacing -/

/-- Cage `k`. -/
def State.cage (s : State) (k : CageId) : Cage := s.cages[k]

/-- Replace cage `k`; its lines follow (R89: they change at the event that changes their condition). -/
def State.setCage (s : State) (k : CageId) (c : Cage) : State :=
  { s with cages := s.cages.set k c.driveLines }

/-- Change cage `k` by `f`. -/
def State.onCage (s : State) (k : CageId) (f : Cage → Cage) : State := s.setCage k (f (s.cage k))

/-- Group `g`. -/
def State.group (s : State) (g : GroupId) : Group := s.groups[g]

def State.setGroup (s : State) (g : GroupId) (x : Group) : State :=
  { s with groups := s.groups.set g x }

def State.onGroup (s : State) (g : GroupId) (f : Group → Group) : State :=
  s.setGroup g (f (s.group g))

/-- Profile `p`. -/
def State.profile (s : State) (p : ProfileId) : Profile := s.profiles[p]

def State.onProfile (s : State) (p : ProfileId) (f : Profile → Profile) : State :=
  { s with profiles := s.profiles.set p (f (s.profile p)) }

/-- The profile cage `k` is bound to (R34). -/
def State.profileOf (s : State) (k : CageId) : Profile := s.profile (s.cage k).binding

def State.onSeq (s : State) (k : CageId) (f : Sequencer → Sequencer) : State :=
  s.onCage k fun c => { c with seq := f c.seq }

def State.onOps (s : State) (k : CageId) (f : Operations → Operations) : State :=
  s.onCage k fun c => { c with ops := f c.ops }

def State.onCtx (s : State) (k : CageId) (f : Context → Context) : State :=
  s.onCage k fun c => { c with ctx := f c.ctx }

def State.onJournal (s : State) (k : CageId) (f : Journal → Journal) : State :=
  s.onCage k fun c => { c with journal := f c.journal }

def State.onLight (s : State) (k : CageId) (f : LightMonitor → LightMonitor) : State :=
  s.onCage k fun c => { c with light := f c.light }

def State.onQual (s : State) (k : CageId) (f : Qualifier → Qualifier) : State :=
  s.onCage k fun c => { c with qual := f c.qual }

/-- Latch a flag of cage `k` (R174). -/
def State.latch (s : State) (k : CageId) (f : CageFlag) : State := s.onCage k (·.latch f)

/-- Count once in a counter of cage `k` (R177). -/
def State.count (s : State) (k : CageId) (i : CageCounter) : State := s.onCage k (·.count i)

/-! ## A command's effect -/

/-- A command's effect: while RESET_N is asserted every block is held at its start-up state and nothing
happens (R190); otherwise `f` happens, and ALERT follows its condition (R176). -/
def event (s : State) (f : State → State) : Host.Outcome State Fault Refusal :=
  .next (if s.inReset then s else (f s).driveAlert)

/-- An effect that has its occasion only under `b`; without it the event cannot occur in the part, and
nothing changes (assumption 2). -/
def State.whenever (s : State) (b : Bool) (f : State → State) : State := if b then f s else s

/-! ## The module belief (R7) -/

/-- The belief becomes UNKNOWN. -/
def State.forgetBelief (s : State) (k : CageId) : State := s.onCtx k fun x => { x with belief := none }

/-! ## Pending selects (R6) -/

/-- The pending selects take effect at the end of their transfer: they become the shadow bank and page,
and a page that is no control page also becomes the module page. -/
def Context.acceptPending (t : Straps) (x : Context) : Context :=
  { x with
    shadowBank := x.pendingBank.getD x.shadowBank
    shadowPage := x.pendingPage.getD x.shadowPage
    modulePage :=
      match x.pendingPage with
      | none => x.modulePage
      | some p => if (t.controlPage p).isSome then x.modulePage else p
    pendingBank := none
    pendingPage := none }

def State.acceptPending (s : State) (k : CageId) : State := s.onCtx k (·.acceptPending s.straps)

end Sys2Proof.Machine
end

