-- ==== Sys2Proof/Machine/Cache.lean ====
section
/-! DEFINITION. The Page Cache (chapter 5): fills, the LRU order, eviction, removal, outcomes and
commands, and the byte a concealed read takes from a line. -/

namespace Sys2Proof.Machine

/-- The pair of cage and key a line is for. -/
def Line.isFor (l : Line) (k : CageId) (key : Key) : Bool :=
  decide (l.owner = k) && decide (l.key = key)

/-- The bytes handed for one key, in order. -/
def bytesOfKey (bytes : List CacheByte) (key : Key) : List CacheByte :=
  bytes.filter fun b => decide (b.key = key)

/-- The keys of a fill, in the order each was first met (R69). -/
def keysMet (bytes : List CacheByte) : List Key :=
  bytes.foldl (fun ks b => if ks.contains b.key then ks else ks ++ [b.key]) []

/-- R69.1: the kind: HELD (here `live`) when any byte handed is LIVE. -/
def kindOf (bytes : List CacheByte) : ReadClass :=
  if bytes.any fun b => decide (b.readClass = .live) then .live else .static

/-- The bytes handed, at their positions; a later byte of the same position is kept (R69). -/
def cellsOf (bytes : List CacheByte) : Octet := bytes.foldl (fun o b => o.put b.pos b.value) emptyOctet

/-- R71: remove the line to reuse when the pool is full: the least recently used STALE line, else the least
recently used line. -/
def evictOne (lines : List Line) : List Line :=
  match lines.findIdx? fun l => decide (l.state = .stale) with
  | some i => lines.eraseIdx i
  | none => lines.eraseIdx 0

/-- R71: room for one line more. -/
def makeRoom (lines : List Line) : List Line :=
  if lines.length < Config.cacheLines then lines else evictOne lines

/-- R69.2 to R69.5 for one key: the line is installed or refreshed at the most-recent end. -/
def fillKey (k : CageId) (key : Key) (bytes : List CacheByte) (lines : List Line) : List Line :=
  match lines.find? fun l => l.isFor k key with
  | none =>
    makeRoom lines ++
      [{ owner := k, key := key, kind := kindOf bytes, state := .valid, cells := cellsOf bytes }]
  | some l =>
    let old := match l.state with
      | .valid => l.cells
      | .stale => emptyOctet
    lines.filter (fun x => !x.isFor k key) ++
      [{ l with kind := kindOf bytes, state := .valid, cells := Octet.over (cellsOf bytes) old }]

/-- R69: one fill of cage `k`'s lines. -/
def fillLines (k : CageId) (bytes : List CacheByte) (lines : List Line) : List Line :=
  (keysMet bytes).foldl (fun ls key => fillKey k key (bytesOfKey bytes key) ls) lines

def State.fillCache (s : State) (k : CageId) (bytes : List CacheByte) : State :=
  { s with cache := fillLines k bytes s.cache }

/-- Free every line of cage `k` (R72 to R75). -/
def State.freeLines (s : State) (k : CageId) : State :=
  { s with cache := s.cache.filter fun l => decide (l.owner ≠ k) }

/-- R72: a qualified removal: MATCHED makes the cage's STATIC lines STALE, UNMATCHED frees its lines. -/
def State.ageLines (s : State) (k : CageId) : State :=
  match (s.cage k).standing with
  | .matched =>
    { s with
      cache := s.cache.map fun l =>
        if l.owner = k ∧ l.kind = .static then { l with state := .stale } else l }
  | .unmatched => s.freeLines k

/-- R73: SAME and UNCHECKED make every STALE line of the cage VALID. -/
def State.reviveLines (s : State) (k : CageId) : State :=
  { s with cache := s.cache.map fun l => if l.owner = k then { l with state := .valid } else l }

/-- R68: set the cache standing. -/
def State.setStanding (s : State) (k : CageId) (x : Standing) : State :=
  s.onCage k fun c => { c with standing := x }

/-- R76: whether a key covers a byte of a USED identity span. Spans stay within their area. -/
def Profile.spanCovers (p : Profile) (key : Key) : Bool :=
  (List.finRange 4).any fun i =>
    p.idSpans[i].used &&
      (offsetsFrom p.idSpans[i].loc.offset p.idSpans[i].effective).any fun o =>
        decide ({ p.idSpans[i].loc with offset := o, bank := p.keyBank p.idSpans[i].loc.bank }.key = key)

/-- R76: ADOPT keeps the cage's VALID lines that cover an identity span, and frees its others. -/
def State.adoptLines (s : State) (k : CageId) : State :=
  let p := s.profileOf k
  { s with
    cache := s.cache.filter fun l =>
      decide (l.owner ≠ k) || (decide (l.state = .valid) && p.spanCovers l.key) }

/-- R17.4: the byte of a line of cage `k` that covers a key and position, VALID or STALE. -/
def State.cachedByte (s : State) (k : CageId) (key : Key) (p : Fin 8) : Option Byte :=
  (s.cache.find? fun l => l.isFor k key).bind (·.cells[p])

/-- R131: a byte of a VALID line of cage `k`. -/
def State.validByte (s : State) (k : CageId) (key : Key) (p : Fin 8) : Option Byte :=
  (s.cache.find? fun l => l.isFor k key && decide (l.state = .valid)).bind (·.cells[p])

/-- R131: the bytes of a span, when VALID lines cover every one of them. -/
def State.coveredSpan (s : State) (k : CageId) (t : Target) : Option (List Byte) :=
  (offsetsFrom t.loc.offset t.length).mapM fun o =>
    s.validByte k
      { t.loc with offset := o, bank := (s.profileOf k).keyBank t.loc.bank }.key (posOf o)

end Sys2Proof.Machine
end

