-- ==== Sys2Proof/Machine/Journal.lean ====
section
/-! DEFINITION. The Write Journal (chapter 4): cutting a handed write into pieces, merging, collapsing and
making records, marks, the shared pool, and emptying. -/

namespace Sys2Proof.Machine

/-- What the tracker hands to the journal for one transfer (R49). -/
structure HandedWrite where
  cage : CageId
  reached : Bool
  bank : Byte
  page : Byte
  bytes : List HandedByte
deriving DecidableEq, Repr

/-- A piece of a handed write (R51), with the offset of its last byte. -/
structure Piece where
  key : Key
  cls : RecordClass
  entry : Option (Fin 16)
  cells : Octet
  last : Byte
deriving DecidableEq, Repr

/-! ## The pool (R46) -/

/-- Records in use across all journals. -/
def State.recordsInUse (s : State) : Nat :=
  allCages.foldl (fun n k => n + s.cages[k].journal.list.length) 0

/-- The pool free count. -/
def State.poolFree (s : State) : Nat := Config.journalPool - s.recordsInUse

/-! ## Pieces (R50, R51) -/

/-- R50.2: a forwarded write ends before its first byte the module did not acknowledge. -/
def HandedWrite.acknowledged (w : HandedWrite) : List HandedByte :=
  if w.reached then w.bytes.takeWhile (·.acked) else w.bytes

/-- R50.3, R50.4: the record class of a byte that is kept; none for a select byte and for a byte of class
OMIT or RESET. -/
def HandedByte.recordClass (b : HandedByte) : Option RecordClass :=
  match b.region with
  | none => none
  | some r =>
    match r.writeClass with
    | .retain => some .retain
    | .sequence => some .sequence
    | .omitted | .reset => none

/-- The piece that one kept byte begins. -/
def HandedByte.piece (bank page : Byte) (b : HandedByte) (cls : RecordClass) : Piece :=
  { key := keyAt bank page b.offset, cls := cls, entry := b.region.bind (·.entry),
    cells := emptyOctet.put (posOf b.offset) b.value, last := b.offset }

/-- R51: whether a kept byte continues a piece: the next byte, at the next offset, of the same key and the same region.
Bytes of one entry whose write class was rewritten between them do not share a piece (assumption 25). -/
def Piece.continues (p : Piece) (bank page : Byte) (b : HandedByte) (cls : RecordClass) : Bool :=
  !b.gap && decide (b.offset.toNat = p.last.toNat + 1) && decide (keyAt bank page b.offset = p.key) &&
    decide (b.region.bind (·.entry) = p.entry) && decide (cls = p.cls)

/-- The piece with one byte more. -/
def Piece.extend (p : Piece) (b : HandedByte) : Piece :=
  { p with cells := p.cells.put (posOf b.offset) b.value, last := b.offset }

/-- One byte of the cut: the pieces finished and the piece still open. A dropped byte closes it. -/
def cutByte (bank page : Byte) (acc : List Piece × Option Piece) (b : HandedByte) :
    List Piece × Option Piece :=
  match b.recordClass, acc.2 with
  | none, none => acc
  | none, some p => (acc.1 ++ [p], none)
  | some cls, none => (acc.1, some (b.piece bank page cls))
  | some cls, some p =>
    if p.continues bank page b cls then (acc.1, some (p.extend b))
    else (acc.1 ++ [p], some (b.piece bank page cls))

/-- R51: the pieces of a write, in the order their bytes were written. -/
def cutPieces (bank page : Byte) (bytes : List HandedByte) : List Piece :=
  let r := bytes.foldl (cutByte bank page) ([], none)
  r.1 ++ r.2.toList

/-! ## Records (R45, R52 to R57) -/

/-- R56: the mark a piece gives: APPLIED when it reached the module, PENDING when posted. -/
def markOf (reached : Bool) : Mark := if reached then .applied else .pending

/-- The record a piece makes. -/
def Piece.record (p : Piece) (reached : Bool) : Record :=
  { key := p.key, cls := p.cls, cells := p.cells, mark := markOf reached }

/-- R52, R54: a piece's bytes over a record's, and the mark of R56. -/
def Record.take (r : Record) (p : Piece) (reached : Bool) : Record :=
  { r with cells := Octet.over p.cells r.cells, mark := markOf reached }

/-- R52: the position of the RETAIN record with a key. -/
def Journal.findRetain (j : Journal) (key : Key) : Option Nat :=
  j.list.findIdx? fun r => decide (r.cls = .retain) && decide (r.key = key)

/-- R54: the tail's position, when a SEQUENCE piece collapses into it. -/
def Journal.collapses (j : Journal) (p : Piece) : Option Nat :=
  match j.list.getLast? with
  | none => none
  | some r =>
    if r.cls = .sequence ∧ r.key = p.key ∧ r.cells.sameMask p.cells = true then
      some (j.list.length - 1)
    else none

/-- The record a piece folds into, if any: R52 for RETAIN, R54 for SEQUENCE. -/
def Journal.foldsInto (j : Journal) (p : Piece) : Option Nat :=
  match p.cls with
  | .retain => j.findRetain p.key
  | .sequence => j.collapses p

/-- R57: a posted piece folded into the replay target disturbs it. -/
def Journal.disturb (j : Journal) (i : Nat) (reached : Bool) : Journal :=
  match j.target with
  | some (t, d) => { j with target := some (t, d || (decide (t = i) && !reached)) }
  | none => j

/-- Fold a piece into record `i`, which keeps its position. -/
def Journal.fold (j : Journal) (i : Nat) (p : Piece) (reached : Bool) : Journal :=
  { j with list := j.list.modify i (·.take p reached) }.disturb i reached

/-- R58: a new record at the tail. -/
def Journal.append (j : Journal) (p : Piece) (reached : Bool) : Journal :=
  { j with list := j.list ++ [p.record reached] }

/-- R58: a piece that is lost: JOURNAL_OVERFLOWS counts, INCOMPLETE is set, and JOURNAL is raised when it was
clear. -/
def Cage.losePiece (c : Cage) : Cage :=
  let c1 := c.count .journalOverflows
  if c1.journal.incomplete then c1
  else { c1 with journal := { c1.journal with incomplete := true } }.latch .journal

/-- R52 to R58: one piece taken by cage `k`'s journal. -/
def State.takePiece (s : State) (k : CageId) (reached : Bool) (p : Piece) : State :=
  match (s.cage k).journal.foldsInto p with
  | some i => s.onJournal k (·.fold i p reached)
  | none =>
    if (s.cage k).journal.list.length < (s.cage k).journal.quota ∧ 0 < s.poolFree then
      s.onJournal k (·.append p reached)
    else
      let s1 := s.onCage k Cage.losePiece
      if s.poolFree = 0 then s1.latchDevice .poolEmpty else s1

/-- R50 to R58: a handed write taken by the journal, as one event. A frozen journal drops it whole; the bytes of
a dropped posted write count in DISCARDED_WRITES (R50.1). -/
def State.takeWrite (s : State) (w : HandedWrite) : State :=
  if (s.cage w.cage).journal.frozen then
    if w.reached then s else s.onCage w.cage (·.countN .discardedWrites w.bytes.length)
  else
    (cutPieces w.bank w.page w.acknowledged).foldl (fun t p => t.takePiece w.cage w.reached p) s

/-! ## Emptying and marking (R56, R57, R63) -/

/-- R63: the list, INCOMPLETE, FROZEN and the replay target are cleared; the quota stands. -/
def Journal.emptied (j : Journal) : Journal :=
  { j with list := [], incomplete := false, frozen := false, target := none }

/-- R56: every record's mark becomes PENDING. -/
def Journal.markAllPending (j : Journal) : Journal :=
  { j with list := j.list.map fun r => { r with mark := .pending } }

def Journal.setMark (j : Journal) (i : Nat) (m : Mark) : Journal :=
  { j with list := j.list.modify i fun r => { r with mark := m } }

/-- R57, R137: record `i` finishes: APPLIED, or left PENDING when it was disturbed; the target becomes
absent. -/
def Journal.finish (j : Journal) (i : Nat) : Journal :=
  let disturbed := match j.target with
    | some (t, d) => decide (t = i) && d
    | none => false
  { (if disturbed then j else j.setMark i .applied) with target := none }

def Journal.anyPending (j : Journal) : Bool := j.list.any fun r => decide (r.mark = .pending)

/-- R17.3: the byte of a RETAIN record that covers a key and position, whatever its mark. -/
def Journal.retained (j : Journal) (key : Key) (p : Fin 8) : Option Byte :=
  (j.list.find? fun r => decide (r.cls = .retain) && decide (r.key = key)).bind (·.cells[p])

/-- R140: the probe's expected byte: of an APPLIED RETAIN record covering the location; none while FROZEN. -/
def Journal.expected (j : Journal) (l : Location) : Option Byte :=
  if j.frozen then none
  else
    (j.list.find? fun r =>
      decide (r.cls = .retain) && decide (r.key = l.key) && decide (r.mark = .applied)).bind
      (·.cells[posOf l.offset])

end Sys2Proof.Machine
end

