-- ==== Sys2Proof/Machine/Bus.lean ====
section
/-! DEFINITION. The downstream buses (chapter 2): downstream transfers and how the module belief follows them
(R7), resynchronisation (R7), burst requests and slots (R21), hand-over (R22), and the composition of a
burst (R25 to R29) up to its end. -/

namespace Sys2Proof.Machine

/-! ## Downstream transfers and the belief (R7, R26, R29) -/

/-- The single-byte select writes that bring a module to a bank and page, bank first, for the select offsets
the profile has: those that differ from the belief, and all of them when it is UNKNOWN. -/
def selectWrites (bankSelect : Option Byte) (pageSelect : Byte) (belief : Option Belief)
    (bank page : Byte) : List (List DownByte) :=
  (match bankSelect with
    | none => []
    | some o =>
      if belief.map (·.bank) = some bank then [] else [[.addressWrite, .offset o, .data bank]]) ++
    (if belief.map (·.page) = some page then []
      else [[.addressWrite, .offset pageSelect, .data page]])

/-- A pointer-setting write: the module address and the offset byte, nothing more. -/
def pointerWrite (o : Byte) : List DownByte := [.addressWrite, .offset o]

/-- Transfers to send, from the first byte of the first. -/
def Job.make (transfers : List (List DownByte)) (full : Bool) (goal : Belief) : Job :=
  { current := transfers.headD [], later := transfers.tail, cursor := 0#8, bankSet := none,
    pageSet := none, full := full, goal := goal }

/-- R7: what one acknowledged byte does to the transfer's cursor and select bytes. -/
def Job.note (j : Job) (bankSelect : Option Byte) (pageSelect : Byte) : DownByte → Job
  | .addressWrite | .addressRead => j
  | .offset o => { j with cursor := o }
  | .data v =>
    if j.cursor = pageSelect then { j with pageSet := some v, cursor := ptrNext j.cursor }
    else if bankSelect = some j.cursor then { j with bankSet := some v, cursor := ptrNext j.cursor }
    else { j with cursor := ptrNext j.cursor }
  | .read => { j with cursor := ptrNext j.cursor }

/-- R7: what one acknowledged byte does to a KNOWN belief's pointer. -/
def Belief.follow (b : Belief) : DownByte → Belief
  | .addressWrite | .addressRead => b
  | .offset o => { b with ptr := o }
  | .data _ | .read => { b with ptr := ptrNext b.ptr }

/-- R7: at the end of a downstream transfer its acknowledged select bytes set the believed bank and page. -/
def Belief.select (b : Belief) (bank page : Option Byte) : Belief :=
  { b with bank := bank.getD b.bank, page := page.getD b.page }

/-- The byte on the bus is acknowledged (or received): the job goes on to its next byte, and the belief
follows. -/
def Job.advance (j : Job) (bankSelect : Option Byte) (pageSelect : Byte) (belief : Option Belief) :
    Job × Option Belief :=
  match j.current with
  | [] => (j, belief)
  | b :: rest =>
    let j1 := j.note bankSelect pageSelect b
    let bel := belief.map (·.follow b)
    if rest.isEmpty then
      ({ j1 with current := j.later.headD [], later := j.later.tail, bankSet := none, pageSet := none },
        bel.map (·.select j1.bankSet j1.pageSet))
    else ({ j1 with current := rest }, bel)

/-- All transfers of the job have been acknowledged. -/
def Job.done (j : Job) : Bool := j.current.isEmpty

/-- R7, R26, R29: the belief at the end of a job: an UNKNOWN one becomes KNOWN when every select was
written. -/
def Job.conclude (j : Job) (belief : Option Belief) : Option Belief :=
  match belief with
  | some b => some b
  | none => if j.full then some j.goal else none

/-- The belief after a byte the module did not acknowledge: UNKNOWN for an offset or data byte (R7). -/
def beliefAfterNack (b : DownByte) (belief : Option Belief) : Option Belief :=
  match b with
  | .addressWrite | .addressRead => belief
  | _ => none

def State.setBelief (s : State) (k : CageId) (b : Option Belief) : State :=
  s.onCtx k fun x => { x with belief := b }

/-! ## Resynchronisation (R7) -/

/-- The resynchronisation a host transfer to a cage needs, or none: the bank, and the page against the
module page, for the select offsets the profile has; for a read also the pointer. -/
def resyncJob (p : Profile) (x : Context) (read : Bool) : Option Job :=
  let selects := selectWrites p.bankSelect p.pageSelect x.belief x.shadowBank x.modulePage
  if selects.isEmpty && !(read && decide (x.belief.map (·.ptr) ≠ some x.hostPtr)) then none
  else
    some
      (Job.make (if read then selects ++ [pointerWrite x.hostPtr] else selects) x.belief.isNone
        { bank := p.keyBank x.shadowBank, page := x.modulePage,
          ptr := if read then x.hostPtr else ptrNext p.pageSelect })

/-! ## The ports -/

/-- A byte goes on the bus: the module-wait limit is measured from here (R5, R33). -/
def State.arm (s : State) (g : GroupId) : State :=
  s.onGroup g fun x =>
    { x with down := { x.down with wait := some (Timer.start s.settings.moduleWait) } }

/-- Nothing is on the bus. -/
def State.disarm (s : State) (g : GroupId) : State :=
  s.onGroup g fun x => { x with down := { x.down with wait := none } }

/-- DSEL of a downstream transaction, from its START to its STOP (R5). -/
def State.select (s : State) (g : GroupId) (k : Option CageId) : State :=
  s.onGroup g fun x => { x with down := { x.down with selected := k } }

/-- What the part drives upstream for the host's byte. -/
def State.answer (s : State) (g : GroupId) (a : UpAnswer) : State :=
  s.onGroup g fun x => { x with up := { x.up with answer := a } }

/-- Change the transfer in progress on an upstream port. -/
def State.onTransfer (s : State) (g : GroupId) (f : Transfer → Transfer) : State :=
  s.onGroup g fun x =>
    { x with
      up :=
        { x.up with
          transaction := x.up.transaction.map fun t => { t with transfer := t.transfer.map f } } }

/-- Replace an upstream port's transaction. -/
def State.setTransaction (s : State) (g : GroupId) (t : Option Transaction) : State :=
  s.onGroup g fun x => { x with up := { x.up with transaction := t } }

def State.setHold (s : State) (g : GroupId) (h : Hold) : State :=
  s.onTransfer g fun x => { x with hold := h }

/-- The cage and transfer in progress on an upstream port. -/
def State.current (s : State) (g : GroupId) : Option (CageId × Transfer) :=
  match (s.group g).up.transaction with
  | some { cage := some k, transfer := some x } => some (k, x)
  | _ => none

/-! ## Hand-over to a host (R4, R7, R22) -/

/-- The host's transfer goes on from its address byte, the bus being the transaction's: START with DSEL, then
any resynchronisation, then the address. A foreign-address transfer needs no resynchronisation (R13). The select
offsets are those in force now, while the host is held at its address byte, also for a host that waited for the bus
(assumption 24). -/
def State.startForward (s : State) (g : GroupId) : State :=
  match s.current g with
  | none => s
  | some (k, x) =>
    let s1 := (s.select g (some k)).arm g
    match x.path with
    | .forwarded =>
      match resyncJob (s.profileOf k) (s.cage k).ctx x.read with
      | some j => s1.setHold g (.resync j)
      | none => s1.setHold g .address
    | _ => s1.setHold g .address

/-! ## Bursts (R25 to R29) -/

def State.setBurst (s : State) (g : GroupId) (b : Burst) : State :=
  s.onGroup g fun x => { x with burst := some b }

/-- R25: the bank and page a request's burst must bring the module to: its own for an UPPER target, the host
view's for a LOWER one; bank 0 without a bank-select offset (R26). -/
def targetPage (p : Profile) (x : Context) (t : Target) : Byte × Byte :=
  match t.loc.area with
  | .upper => (p.keyBank t.loc.bank, t.loc.page)
  | .lower => (p.keyBank x.shadowBank, x.modulePage)

/-- The data phase of a burst (R27, R28). -/
def Request.dataPhase (r : Request) : List (List DownByte) :=
  match r.data with
  | some bytes => [.addressWrite :: .offset r.target.loc.offset :: bytes.map .data]
  | none =>
    [pointerWrite r.target.loc.offset,
      .addressRead :: List.replicate r.target.length .read]

/-- The host view as the restore sees it (R29): shadow bank, module page, host pointer. -/
def Context.hostView (x : Context) : Belief :=
  { bank := x.shadowBank, page := x.modulePage, ptr := x.hostPtr }

/-- R29: whether the belief differs from the host view, the bank only where the burst has a bank select. A belief that became
UNKNOWN during the restore counts as differing (assumption 30). -/
def Burst.differs (b : Burst) (belief : Option Belief) (view : Belief) : Bool :=
  match belief with
  | none => true
  | some x =>
    (b.bankSelect.isSome && decide (x.bank ≠ view.bank)) || decide (x.page ≠ view.page) ||
      decide (x.ptr ≠ view.ptr)

/-- R29: the writes of a restore to a host view, the pointer-setting write last. -/
def Burst.restoreJob (b : Burst) (belief : Option Belief) (view : Belief) : Job :=
  Job.make
    (selectWrites b.bankSelect b.pageSelect belief view.bank view.page ++ [pointerWrite view.ptr])
    belief.isNone { view with bank := if b.bankSelect.isSome then view.bank else 0#8 }

/-- R29, R32: the belief a restore starts from: in the first restore of a burst begun with an UNKNOWN belief it is
taken as UNKNOWN still, so that the host view is written in full (assumption 19). -/
def Burst.restoreFrom (b : Burst) (belief : Option Belief) (second : Bool) : Option Belief :=
  if b.blind && !second then none else belief

/-- R29: the restore begins, from the host view as it stands. -/
def State.startRestore (s : State) (g : GroupId) (b : Burst) (second : Bool) : State :=
  let x := (s.cage b.cage).ctx
  ((s.setBurst g
      { b with
        phase := .restore second
        job := b.restoreJob (b.restoreFrom x.belief second) x.hostView }).select g
      (some b.cage)).arm g

/-- R27, R28: the data phase begins. -/
def State.startData (s : State) (g : GroupId) (b : Burst) : State :=
  (s.setBurst g
    { b with
      phase := .data
      job := Job.make b.request.dataPhase false { bank := b.bank, page := b.page, ptr := 0#8 } }).arm g

/-- R30: the phases are over: STOP, DSEL deasserted; the burst waits for its end. -/
def State.stopBurst (s : State) (g : GroupId) (b : Burst) : State :=
  ((s.setBurst g { b with phase := .ended }).select g none).disarm g

/-- R26 to R29: a phase whose transfers were all acknowledged is over. -/
def State.phaseDone (s : State) (g : GroupId) (b : Burst) : State :=
  let bel := b.job.conclude (s.cage b.cage).ctx.belief
  let s1 := s.setBelief b.cage bel
  match b.phase with
  | .select => s1.startData g b
  | .data => s1.startRestore g { b with outcome := some .complete } false
  | .restore second =>
    if !second && b.differs bel (s.cage b.cage).ctx.hostView then s1.startRestore g b true
    else s1.stopBurst g b
  | .ended => s

/-- R26 to R29: the module did not acknowledge the byte on the bus. -/
def State.burstNack (s : State) (g : GroupId) (b : Burst) (byte : DownByte) : State :=
  let s1 := s.setBelief b.cage (beliefAfterNack byte (s.cage b.cage).ctx.belief)
  match b.phase with
  | .select | .data => s1.startRestore g { b with outcome := some .nacked } false
  | .restore _ =>
    (s1.forgetBelief b.cage).stopBurst g { b with restoreFailed := some .nacked }
  | .ended => s

/-- The burst with the byte on the bus counted: data bytes acknowledged, bytes received (R30). -/
def Burst.counted (b : Burst) (byte : DownByte) (data : Byte) : Burst :=
  match b.phase, byte with
  | .data, .data _ => { b with acked := b.acked + 1 }
  | .data, .read => { b with received := b.received ++ [data] }
  | _, _ => b

/-- R4, R28: the acknowledge the part gives a module's read byte. -/
def State.setLastAck (s : State) (g : GroupId) (a : Bool) : State :=
  s.onGroup g fun x => { x with down := { x.down with lastAck := a } }

/-- R22.2, R25, R26: DN*g* is handed to the request of cage `k`: the save, then the select phase, or the data
phase when no select is needed. -/
def State.beginBurst (s : State) (g : GroupId) (k : CageId) (a : Agent) (r : Request) : State :=
  let p := s.profileOf k
  let x := (s.cage k).ctx
  let t := targetPage p x r.target
  let selects := selectWrites p.bankSelect p.pageSelect x.belief t.1 t.2
  let b : Burst :=
    { cage := k, agent := a, request := r, bankSelect := p.bankSelect, pageSelect := p.pageSelect,
      bank := t.1, page := t.2, phase := .select,
      job := Job.make selects x.belief.isNone { bank := t.1, page := t.2, ptr := ptrNext p.pageSelect },
      outcome := none, restoreFailed := none, acked := 0, received := [], orphan := false,
      spoiled := false, aborting := false, blind := x.belief.isNone }
  let s1 :=
    ((s.onCage k fun c => { c with slot := .running }).onGroup g fun y =>
      { y with owner := .burst k, lastServed := slotOf k }).select g (some k)
  if selects.isEmpty then s1.startData g b else (s1.setBurst g b).arm g

/-! ## The arbiter's choice (R22) -/

/-- The request waiting in a cage's slot. -/
def Slot.request? : Slot → Option (Agent × Request)
  | .requested a r => some (a, r)
  | _ => none

/-- The slots in cyclic order from the slot after last served. -/
def slotOrder (last : SlotId) : List SlotId := [last + 1, last + 2, last + 3, last]

/-- R22.2: the first slot of the group, in that order, that holds a request not yet handed DN*g*. -/
def State.nextRequest (s : State) (g : GroupId) : Option (CageId × Agent × Request) :=
  (slotOrder (s.group g).lastServed).findSome? fun n =>
    (s.cage (cageAt g n)).slot.request?.map fun (a, r) => (cageAt g n, a, r)

/-- R22: while the owner is IDLE, DN*g* goes to the waiting host, else to the next request, else stays IDLE. -/
def State.arbitrate (s : State) (g : GroupId) : State :=
  if (s.group g).owner = .idle then
    match (s.group g).waiting with
    | some w =>
      (s.onGroup g fun x => { x with owner := .host w.cage false, waiting := none }).startForward g
    | none =>
      match s.nextRequest g with
      | some (k, a, r) => s.beginBurst g k a r
      | none => s
  else s

/-- The owner becomes IDLE and the arbiter chooses again (R24, R30); nothing is on the bus. -/
def State.freeBus (s : State) (g : GroupId) : State :=
  (s.onGroup g fun x =>
    { x with
      owner := .idle
      burst := none
      down := { x.down with selected := none, wait := none } }).arbitrate g

/-- R24: a host transaction gives the bus back: at once, or, while its stalled module holds DSCL, when the
module releases it. -/
def State.returnBus (s : State) (g : GroupId) : State :=
  match (s.group g).owner with
  | .host k _ =>
    if (s.group g).down.stalled then s.onGroup g fun x => { x with owner := .host k true }
    else s.freeBus g
  | _ => s

/-! ## Requests (R21) -/

/-- An empty slot is filled by the agent that began waiting first. -/
def Cage.fillSlot (c : Cage) : Cage :=
  match c.slot, c.slotQueue with
  | .empty, (a, r) :: rest => { c with slot := .requested a r, slotQueue := rest }
  | _, _ => c

/-- An agent wants a burst: its request fills the slot, or waits for it; an IDLE arbiter chooses. -/
def State.raise (s : State) (k : CageId) (a : Agent) (r : Request) : State :=
  (s.onCage k fun c => { c with slotQueue := c.slotQueue ++ [(a, r)] }.fillSlot).arbitrate (groupOf k)

/-- Withdraw an agent's request and its waiting (R21). -/
def Cage.withdrawAgent (c : Cage) (a : Agent) : Cage :=
  { c with
    slotQueue := c.slotQueue.filter fun w => decide (w.1 ≠ a)
    slot :=
      match c.slot with
      | .requested b r => if b = a then .empty else .requested b r
      | x => x }.fillSlot

/-- A running burst of cage `k` and agent `a` loses its operation: its report will be discarded (R30). -/
def Group.orphan (x : Group) (k : CageId) (a : Agent) : Group :=
  { x with
    burst := x.burst.map fun b => if b.cage = k ∧ b.agent = a then { b with orphan := true } else b }

/-- R21, R30: the operation of an agent ends: its request is withdrawn, a burst in progress runs to its end
with its report discarded, and the other agent may fill the slot. -/
def State.withdraw (s : State) (k : CageId) (a : Agent) : State :=
  ((s.onCage k (·.withdrawAgent a)).onGroup (groupOf k) (·.orphan k a)).arbitrate (groupOf k)

/-- The burst of cage `k` that holds its group's bus. -/
def State.burstOf (s : State) (k : CageId) : Option Burst :=
  match (s.group (groupOf k)).burst with
  | some b => if b.cage = k then some b else none
  | none => none

/-- R30, R31: the burst's slot empties, a waiting agent fills it, the owner becomes IDLE and the arbiter chooses
again. -/
def State.closeBurst (s : State) (k : CageId) : State :=
  (s.onCage k fun c => { c with slot := .empty }.fillSlot).freeBus (groupOf k)

/-- The module holds DSCL past its limit, or a byte is on the bus and has no answer yet. -/
def DownPort.busy (d : DownPort) : Bool := d.stalled || d.wait.isSome

/-- R31: a burst of cage `k` in progress is aborted, and the belief becomes UNKNOWN. The STOP waits for the byte on the
bus to finish, and, while the module holds DSCL, for its release. A burst whose last STOP has been sent and whose BURST_END is
still to come is aborted like any other, and reports and counts nothing (assumption 29). -/
def State.abortBurst (s : State) (k : CageId) : State :=
  match s.burstOf k with
  | none => s
  | some b =>
    let s1 := s.forgetBelief k
    if (s.group (groupOf k)).down.busy then
      s1.setBurst (groupOf k) { b with outcome := some .aborted, orphan := true, aborting := true }
    else s1.closeBurst k

/-- R31: the byte on the bus of an aborted burst has finished, a byte read without an acknowledge: STOP, and the bus
passes on. -/
def State.finishAbort (s : State) (g : GroupId) (b : Burst) : State :=
  (if b.job.current.head? = some .read then s.setLastAck g false else s).closeBurst b.cage

/-! ## A module's answer to a burst (R26 to R31) -/

/-- R26 to R29: the module's answer to the byte a burst has on the bus. A read burst acknowledges every byte but the
last. An aborted burst ends at the byte (R31). -/
def State.burstAnswer (s : State) (g : GroupId) (b : Burst) (ack : Bool) (data : Byte) : State :=
  if b.aborting then s.finishAbort g b
  else
    match b.job.current with
    | [] => s
    | byte :: _ =>
      if ack || decide (byte = .read) then
        let r := b.job.advance b.bankSelect b.pageSelect (s.cage b.cage).ctx.belief
        let b1 := { b.counted byte data with job := r.1 }
        let s0 := s.setBelief b.cage r.2
        let s1 :=
          if byte = .read then s0.setLastAck g (decide (r.1.current.head? = some .read)) else s0
        if r.1.done then s1.phaseDone g b1 else (s1.setBurst g b1).arm g
      else s.burstNack g b byte

/-- R26 to R29, R31: the module stalls on the byte a burst has on the bus: STALLED in the select or data phase, a
failed restore in the restore; the belief is UNKNOWN. An aborted burst waits on for the release. -/
def State.burstStall (s : State) (g : GroupId) (b : Burst) : State :=
  let s1 := (s.forgetBelief b.cage).onGroup g fun x =>
    { x with down := { x.down with stalled := true, wait := none } }
  if b.aborting then s1
  else
    match b.phase with
    | .select | .data => s1.setBurst g { b with outcome := some .stalled }
    | .restore _ => s1.setBurst g { b with restoreFailed := some .stalled, phase := .ended }
    | .ended => s

/-! ## Causes of an UNKNOWN belief outside the bus (R7, R35) -/

/-- The belief becomes UNKNOWN (MRST is asserted, or the select offsets change), and a job of the cage under way, a burst's
select writes or a host's resynchronisation, no longer makes it KNOWN by the selects it wrote before. For a resynchronisation this is
the model's reading, since R35 names only a burst's end (assumption 31). -/
def State.losePage (s : State) (k : CageId) : State :=
  let g := groupOf k
  let s1 := (s.forgetBelief k).onGroup g fun x =>
    { x with
      burst := x.burst.map fun b =>
        if b.cage = k then { b with job := { b.job with full := false } } else b }
  match s1.current g with
  | some (c, x) =>
    match x.hold with
    | .resync j => if c = k then s1.setHold g (.resync { j with full := false }) else s1
    | _ => s1
  | none => s1

/-- R35, R43: the select offsets of the cage change: the belief becomes UNKNOWN, and stays so at the end of a burst
in progress. -/
def State.changeSelects (s : State) (k : CageId) : State :=
  (s.losePage k).onGroup (groupOf k) fun x =>
    { x with burst := x.burst.map fun b => if b.cage = k then { b with spoiled := true } else b }

end Sys2Proof.Machine
end

