-- ==== Sys2Proof/Machine/Light.lean ====
section
/-! DEFINITION. The Light Monitor (chapter 10): samples and their schedule (R160, R164), judging the lanes
(R161, R162), and DIM (R168, R170). -/

namespace Sys2Proof.Machine

/-! ## DIM (R170) -/

/-- DIM takes a value; LIGHT latches when it changes (R170). -/
def State.setDim (s : State) (k : CageId) (b : Bool) : State :=
  if (s.cage k).seq.dim = b then s else (s.onSeq k fun q => { q with dim := b }).latch k .light

/-! ## Judging (R161, R162) -/

/-- R161, R162: one lane judged by its raw value. -/
def Lane.judge (l : Lane) (p : LaneSettings) (x : Nat) : Lane :=
  let lit := if p.lit ≤ x then min 15 (l.litRun + 1) else 0
  let dark := if x < p.dark then min 15 (l.darkRun + 1) else 0
  { lit := if l.lit then !decide (p.darkCount ≤ dark) else decide (p.litCount ≤ lit)
    litRun := lit
    darkRun := dark
    band := bandOf x }

/-- R160: the raw value of lane `n`, more significant byte first. -/
def rawValue (bytes : List Byte) (n : LaneId) : Nat :=
  wordOf (bytes.getD (2 * n.val) 0#8) (bytes.getD (2 * n.val + 1) 0#8)

/-- R162: the lanes below `count` judged together; the others stand. -/
def judgeLanes (lanes : Vector Lane 8) (p : LaneSettings) (count : Nat) (bytes : List Byte) :
    Vector Lane 8 :=
  Vector.ofFn fun n : Fin 8 => if n.val < count then lanes[n].judge p (rawValue bytes n) else lanes[n]

/-- R165, R167: every lane DARK with both runs 0; its band stands. -/
def darkLanes (lanes : Vector Lane 8) : Vector Lane 8 :=
  Vector.ofFn fun n : Fin 8 => { lit := false, litRun := 0, darkRun := 0, band := lanes[n].band }

/-- R165, R168: every lane of the effective required-lane mask is LIT. -/
def Profile.allLit (p : Profile) (lanes : Vector Lane 8) : Bool :=
  (List.finRange 8).all fun n => !p.requires n || lanes[n].lit

/-! ## Samples (R160, R164) -/

/-- R164: the sample period of an activity, in ms; IDLE has none. -/
def State.samplePeriod (s : State) : Activity → Nat
  | .verify => s.settings.lightPoll * 10
  | .monitor => s.settings.monitorPeriod * 100
  | .idle => 0

/-- R164: a sample has ended; the sample timer starts with the period of the activity in force. -/
def State.endSample (s : State) (k : CageId) : State :=
  s.onLight k fun l =>
    { l with
      sample := none
      sampleTimer :=
        match l.activity with
        | .idle => none
        | a => some (Timer.start (s.samplePeriod a)) }

/-- R160: a sample is due: empty when no lane is monitored, else its read burst is raised. -/
def State.raiseSample (s : State) (k : CageId) : State :=
  let p := s.profileOf k
  match p.lane.lane0.get? with
  | some l =>
    if p.lanes = 0 then s.endSample k
    else
      let r : Request :=
        { purpose := .sample, target := { loc := l, length := 2 * p.lanes }, data := none }
      (s.onLight k fun m =>
        { m with
          sampleTimer := none
          sample := some { request := r, lanes := p.lanes, failures := 0, retry := none } }).raise k
        .monitor r
  | none => s.endSample k

/-- R164, R166, R167: the activity becomes IDLE: sampling stops, the request is withdrawn, a running burst's report
will be discarded. -/
def State.endLight (s : State) (k : CageId) : State :=
  (s.onLight k fun l =>
    { l with activity := .idle, sampleTimer := none, lightTimeout := none, sample := none }).withdraw k
    .monitor

/-- R165: verification begins. -/
def State.beginVerify (s : State) (k : CageId) : State :=
  (s.onLight k fun l =>
    { l with
      activity := .verify
      lanes := darkLanes l.lanes
      failedRun := 0
      lightTimeout := some (Timer.start (s.settings.lightTimeout * 1000)) }).raiseSample k

/-- R167: monitoring begins at an entry to SERVING; `keep` when the lanes keep their states. The first sample is
raised by the caller. -/
def State.beginMonitor (s : State) (k : CageId) (keep : Bool) : State :=
  s.onLight k fun l =>
    { l with
      activity := .monitor
      lanes := if keep then l.lanes else darkLanes l.lanes
      failedRun := 0 }

/-! ## What a completed sample in MONITOR reports (R168) -/

/-- The lanes below 8 that went from LIT to DARK. -/
def darkened (before after : Vector Lane 8) (n : LaneId) : Bool := before[n].lit && !after[n].lit

/-- R168: each lane that went dark counts once in its own counter. -/
def Cage.countDark (c : Cage) (before after : Vector Lane 8) : Cage :=
  (List.finRange 8).foldl
    (fun x n => if darkened before after n then x.count (.darkEvents n) else x) c

/-- R168: LIGHT, DARK_EVENTS and DIM after the lanes of a MONITOR sample are judged. -/
def State.reportLanes (s : State) (k : CageId) (before after : Vector Lane 8) : State :=
  let p := s.profileOf k
  let s1 :=
    if (List.finRange 8).any fun n => before[n].lit != after[n].lit then
      (s.onCage k (·.countDark before after)).latch k .light
    else s
  if (List.finRange 8).any fun n => p.requires n && darkened before after n then s1.setDim k true
  else if p.allLit after then s1.setDim k false
  else s1

end Sys2Proof.Machine
end

