-- ==== Sys2Proof/Machine/Tracker.lean ====
section
/-! DEFINITION. The paths of the Pass-Through Tracker (chapter 1): the path of a transfer (R9), the end of its
downstream side (R7, R8), the request for the bus (R23), and what a cage's departure from SERVING or HELD
does to a transfer in progress (R10, R23, R24). -/

namespace Sys2Proof.Machine

/-! ## The path of a transfer (R9) -/

/-- R8, R19: the next byte of a read would come from a control page. -/
def State.onControlPage (s : State) (k : CageId) : Bool :=
  (s.straps.controlByte (s.cage k).ctx.shadowPage (s.cage k).ctx.hostPtr).isSome

/-- R9: the path of a transfer whose address byte completes now; `module` for a module-address transfer. R8
takes precedence: a read that starts on a control page needs no bus. -/
def State.pathNow (s : State) (k : CageId) (module read : Bool) : Path :=
  if module then
    if (s.cage k).seq.state.inService then
      if read && s.onControlPage k then .control else .forwarded
    else if (s.cage k).seq.concealed then .concealed
    else if read then
      if s.onControlPage k then .control else .refused
    else .uncovered
  else if (s.cage k).seq.state.inService then .foreign
  else .foreignRefused

/-- The address of a transfer on this path is a module address. -/
def Path.isModule : Path → Bool
  | .foreign | .foreignRefused => false
  | _ => true

/-- A transfer on this path uses the downstream bus. -/
def Path.isRelayed : Path → Bool
  | .forwarded | .foreign => true
  | _ => false

/-- The part's own answer to an address byte on a path that needs no bus (R16 to R19). -/
def Path.addressAnswer : Path → UpAnswer
  | .concealed | .uncovered | .control => .ack
  | _ => .nack

/-! ## The end of the downstream side (R5, R7, R8) -/

/-- The end of a transfer downstream: its acknowledged select bytes set the believed bank and page (R7). -/
def State.concludeDown (s : State) (g : GroupId) (k : CageId) : State :=
  match s.current g with
  | some (_, x) =>
    (s.onCtx k fun c =>
        { c with belief := c.belief.map (·.select x.bankSet x.pageSet) }).onTransfer g fun y =>
        { y with bankSet := none, pageSet := none }
  | none => s

/-- STOP downstream ends the transfer, and DSEL is deasserted. -/
def State.endDown (s : State) (g : GroupId) (k : CageId) : State := (s.concludeDown g k).select g none

/-- R8: the rest of a forwarded transfer needs no bus: STOP goes downstream. On every path the bytes after it
are diverted or not acknowledged. -/
def State.afterSelect (s : State) (g : GroupId) (k : CageId) (x : Transfer) : State :=
  let s1 := if x.path = .forwarded ∧ x.relay = .live then s.endDown g k else s
  s1.onTransfer g fun y => { y with relay := .afterSelect }

/-! ## Asking for the bus (R23) -/

/-- R23: a transfer to be forwarded asks for DN*g* at its address byte. -/
def State.requestBus (s : State) (g : GroupId) (k : CageId) : State :=
  match (s.group g).owner with
  | .idle => (s.onGroup g fun x => { x with owner := .host k false }).startForward g
  | .host _ false =>
    if (s.group g).down.stalled then s.setHold g .release else s.startForward g
  | .host _ true | .burst _ =>
    (s.onGroup g fun x =>
      { x with
        waiting := some { cage := k, timer := Timer.start s.settings.hostWait } }).setHold g .bus

/-- R23: the host stops waiting; the timer stops. -/
def State.stopWaiting (s : State) (g : GroupId) : State :=
  s.onGroup g fun x => { x with waiting := none }

/-- The address byte in progress is answered without the bus, on the given path. -/
def State.answerOn (s : State) (g : GroupId) (p : Path) : State :=
  (s.onTransfer g fun y => { y with path := p, hold := .none, cut := none }).answer g p.addressAnswer

/-! ## A forwarded transfer whose cage leaves SERVING or HELD (R10, R23, R24) -/

/-- R10: a transfer on its new path is handled as if it had begun there, after a stall too (R14.3 speaks of its old
path; assumption 22). A control-page select keeps its hold on the rest (R8), and so does an address byte that the
module did not acknowledge. -/
def Relay.afterCut : Relay → Relay
  | .stalled => .live
  | r => r

/-- R10: at the byte boundary the downstream side ends with STOP, a read byte relayed last having been not
acknowledged; the transfer goes on on its new path, and the bus is given back. -/
def State.cutNow (s : State) (g : GroupId) (k : CageId) (x : Transfer) (p : Path) : State :=
  let s1 := if x.relay = .live then s.endDown g k else s
  let s2 := if x.read && decide (x.relay = .live) then s1.setLastAck g false else s1
  (s2.onTransfer g fun y =>
    { y with path := p, relay := y.relay.afterCut, cut := none }).returnBus g

/-- R69: the module of cage `k` is removed; a read transfer in progress brings the cache nothing any more. -/
def State.dropReads (s : State) (k : CageId) : State :=
  match s.current (groupOf k) with
  | some (c, _) =>
    if c = k then s.onTransfer (groupOf k) fun y => { y with moduleGone := true } else s
  | none => s

/-- R10, R24: the transaction that holds the bus for cage `k` loses it: at once at a byte boundary, else when the
byte in progress has its answer. -/
def State.cutOwner (s : State) (g : GroupId) (k : CageId) : State :=
  match s.current g with
  | none => s.returnBus g
  | some (_, x) =>
    let p := s.pathNow k x.path.isModule x.read
    match x.hold with
    | .none => if x.path.isRelayed then s.cutNow g k x p else s.returnBus g
    | .bus | .release => (s.answerOn g p).returnBus g
    | .resync _ | .address | .offset _ | .data _ _ | .read _ _ =>
      s.onTransfer g fun y => { y with cut := some p }

/-- R23: a host of cage `k` that waits for the bus is answered on the path of the cage's new state. -/
def State.answerWaiting (s : State) (g : GroupId) (k : CageId) : State :=
  match (s.group g).waiting with
  | some w =>
    if w.cage = k then
      match s.current g with
      | some (_, x) =>
        (s.stopWaiting g).answerOn g (s.pathNow k x.path.isModule x.read)
      | none => s.stopWaiting g
    else s
  | none => s

/-- R10, R23, R24: cage `k` has left SERVING or HELD, its new state and concealment in place. -/
def State.leaveService (s : State) (k : CageId) : State :=
  let g := groupOf k
  let s1 := s.answerWaiting g k
  match (s1.group g).owner with
  | .host c false => if c = k then s1.cutOwner g k else s1
  | _ => s1

/-- R24, R31: a pulled module no longer holds DSCL: a bus held only for its stall is freed, and a stall of a burst or
a transaction of the cage is over. -/
def State.unstall (s : State) (k : CageId) : State :=
  let g := groupOf k
  let clear := s.onGroup g fun x => { x with down := { x.down with stalled := false } }
  match (s.group g).owner with
  | .host c ended =>
    if c = k ∧ (s.group g).down.stalled then
      if ended then clear.freeBus g else clear.select g none
    else s
  | .burst c => if c = k then clear else s
  | .idle => s

/-- A module-address write transfer to the cage is in progress on the concealed path (R107). -/
def State.postedInFlight (s : State) (k : CageId) : Bool :=
  match s.current (groupOf k) with
  | some (c, x) => decide (c = k) && !x.read && decide (x.path = .concealed)
  | none => false

end Sys2Proof.Machine
end

