-- ==== Sys2Proof/Machine/Sequencer.lean ====
section
/-! DEFINITION. The Cage Sequencer's own steps (chapter 7): the end of an operation, reveals (R114), the end of a
recovery (R98), holds (R108), recovery starts (R98, R113), readiness polling (R127), the boot wait (R100) and
the ramp wait (R104). -/

namespace Sys2Proof.Machine

/-! ## Operations end (R21, R108, R111) -/

/-- The sequencer's operation in flight ends: its request is withdrawn, a running burst's report will be discarded,
the replay target becomes absent, the wait timer and any pending serving check end. -/
def State.endOps (s : State) (k : CageId) : State :=
  (s.onCage k fun c =>
    { c with
      ops := Operations.reset
      journal := { c.journal with target := none }
      seq := { c.seq with waitTimer := none, probeTimer := none, serveCheck := false } }).withdraw k
    .sequencer

/-! ## Reveals (R114, R115) -/

/-- R114: a concealed recovery is revealed; otherwise nothing changes. -/
def State.reveal (s : State) (k : CageId) : State :=
  if (s.cage k).seq.concealed then
    (s.onSeq k fun q =>
      { q with
        concealed := false
        concealTimer := none
        revealTimer := some (Timer.start (s.settings.revealMinimum * 10)) }).latch k .revealed
  else s

/-! ## The end of a recovery (R98) -/

/-- R98: LAST_RECOVERY_TIME of a recovery clock: the ms div 100, at most 65535. -/
def recoveryTime (clock : Nat) : Nat := min Config.counterMax (clock / 100)

/-- R98: a recovery under way ends: its time is recorded. -/
def Cage.endRecovery (c : Cage) : Cage :=
  match c.seq.recovery with
  | none => c
  | some _ =>
    { c with
      seq := { c.seq with recovery := none, clock := none }
      events := { c.events with lastRecovery := recoveryTime (c.seq.clock.getD 0) } }

/-! ## Holds (R108) -/

/-- R108: the cage enters HELD with a reason. -/
def State.enterHeld (s : State) (k : CageId) (reason : HoldReason) : State :=
  let s1 := (s.endOps k).endLight k
  let s2 := s1.onCage k fun c =>
    let d := c.endRecovery
    { d with
      seq := { d.seq with state := .held, holdReason := reason }
      standing := if c.seq.identified then c.standing else .unmatched }
  (s2.reveal k).onCage k fun c => (c.latch .held).count .holds

/-! ## Recovery starts (R98, R113) -/

/-- R113: whether a recovery that begins now is concealed. -/
def State.conceals (s : State) (k : CageId) : Bool :=
  let q := (s.cage k).seq
  decide (q.state = .serving) && decide (s.mode = .recover) && q.baseline.isSome &&
    decide ((s.cage k).settings.concealLimit ≠ 0) && q.revealTimer.isNone

/-- R98: a recovery of the given kind begins: its clock starts, DIM is cleared, concealment is decided. -/
def State.startRecovery (s : State) (k : CageId) (kind : RecoveryKind) : State :=
  let hide := s.conceals k
  (s.setDim k false).onCage k fun c =>
    { c with
      seq :=
        { c.seq with
          recovery := some kind
          clock := some 0
          holdReason := .none
          concealed := hide
          concealTimer :=
            if hide then some (Timer.start (c.settings.concealLimit * 1000)) else none } }

/-- R98: RESEAT when the baseline is present, FIRST when it is absent. -/
def Sequencer.reseatKind (q : Sequencer) : RecoveryKind :=
  if q.baseline.isSome then .reseat else .first

/-! ## Readiness polling (R127) -/

/-- R127: a poll is due: its request is raised with the indicator as it stands, or polling ends when the profile
has none. -/
def State.raisePoll (s : State) (k : CageId) : State :=
  let r := (s.profileOf k).ready
  if r.present then
    (s.onOps k fun o =>
      { o with polling := some { mask := r.mask, value := r.value, timer := none } }).raise k
      .sequencer
      { purpose := .poll, target := r.loc.target, data := none }
  else s.onOps k fun o => { o with polling := none }

/-- R127: polling ends. -/
def State.endPolling (s : State) (k : CageId) : State :=
  (s.onOps k fun o => { o with polling := none }).withdraw k .sequencer

/-- R127.4: the poll timer starts after a report that does not find the module ready. -/
def State.startPollTimer (s : State) (k : CageId) : State :=
  s.onOps k fun o =>
    { o with
      polling :=
        o.polling.map fun p =>
          { p with timer := some (Timer.start (s.settings.readyPoll * 10)) } }

/-- R100, R104: a wait for the module: with a ready indicator the timeout runs and polling begins; else the boot
delay runs. -/
def State.beginWait (s : State) (k : CageId) (timeout delay : WaitKind) (seconds : Nat) : State :=
  let p := s.profileOf k
  if p.ready.present then
    (s.onSeq k fun q =>
      { q with waitTimer := some (timeout, Timer.start (seconds * 1000)) }).raisePoll k
  else
    s.onSeq k fun q => { q with waitTimer := some (delay, Timer.start (p.bootDelay * 100)) }

/-! ## Booting (R100) -/

/-- R100: the boot wait begins, when the cage is BOOTING with MRST deasserted and no reset pulse running. -/
def State.beginBootWait (s : State) (k : CageId) : State :=
  let c := s.cage k
  if c.seq.state = .booting ∧ c.lines.mrst = false ∧ c.lines.pulse = none then
    s.beginWait k .bootTimeout .bootDelay s.settings.bootTimeout
  else s

/-- The cage enters BOOTING, and the boot wait begins when it may. -/
def State.enterBooting (s : State) (k : CageId) : State :=
  (s.onSeq k fun q => { q with state := .booting, verified := false }).beginBootWait k

/-! ## Ramping (R104) -/

/-- R104: the cage enters RAMPING and the ramp wait begins. -/
def State.enterRamping (s : State) (k : CageId) : State :=
  (s.onSeq k fun q => { q with state := .ramping }).beginWait k .rampTimeout .rampDelay
    s.settings.rampTimeout

/-- The wait for the module is over: the wait timer stops and polling ends. -/
def State.endWait (s : State) (k : CageId) : State :=
  (s.onSeq k fun q => { q with waitTimer := none }).endPolling k

end Sys2Proof.Machine
end

