-- ==== Sys2Proof/Machine/Power.lean ====
section
/-! DEFINITION. The Power Admission Unit (chapter 9): the computed charge (R147), the ledger (R146, R155), the wait
queue (R149), scans and grants (R150, R151). -/

namespace Sys2Proof.Machine

/-! ## The computed charge (R147) -/

/-- R147: the charge for a declared power under a margin, an idle charge and a ceiling. -/
def chargeFor (declared : Option Byte) (margin idle ceiling : Nat) : Nat :=
  max idle
    (match declared with
    | some p => (p.toNat * (100 + margin) + 99) / 100
    | none => ceiling)

/-- R147: the computed charge and the over-ceiling flag of cage `k` are worked out afresh, from the declared power that the cage's
latest identification left, be it of a module since removed (assumption 34). -/
def State.compute (s : State) (k : CageId) : State :=
  s.onCage k fun c =>
    let x := chargeFor c.seq.declared s.settings.margin s.settings.idleCharge c.settings.ceiling
    { c with
      ledger := { c.ledger with computed := some x, overCeiling := decide (c.settings.ceiling < x) } }

/-! ## The ledger (R145, R146, R155) -/

/-- R155: committed exceeds the budget. -/
def State.overcommitted (s : State) : Bool := decide (s.settings.budget < s.committed)

/-- R155: OVERCOMMIT latches when the condition has changed since `old`. -/
def State.judgeOver (s old : State) : State :=
  if s.overcommitted = old.overcommitted then s else s.latchDevice .overcommit

/-- R145, R146: cage `k`'s charge becomes `x`, and committed changes by as much. -/
def State.setCharge (s : State) (k : CageId) (x : Nat) (grant : Bool) : State :=
  let s1 := s.onCage k fun c => { c with ledger := { c.ledger with charge := x, grant := grant } }
  State.judgeOver { s1 with committed := s.committed - (s.cage k).ledger.charge + x } s

/-! ## The wait queue (R149) -/

/-- R149: an entry joins after every entry of its own priority or higher. -/
def joinQueue (q : List QueueEntry) (e : QueueEntry) : List QueueEntry :=
  q.takeWhile (fun x => decide (e.priority ≤ x.priority)) ++
    e :: q.dropWhile (fun x => decide (e.priority ≤ x.priority))

/-- R149: a cage leaves the queue. -/
def State.leaveQueue (s : State) (k : CageId) : State :=
  { s with queue := s.queue.filter fun e => decide (e.cage ≠ k) }

/-- Whether cage `k` has an entry. -/
def State.isQueued (s : State) (k : CageId) : Bool := s.queue.any fun e => decide (e.cage = k)

/-- R158: the passed count of cage `k`'s entry, 0 without one. -/
def State.passedCount (s : State) (k : CageId) : Nat :=
  ((s.queue.find? fun e => decide (e.cage = k)).map (·.passed)).getD 0

/-! ## Scans (R150) -/

/-- R150: an entry passed by a grant. -/
def QueueEntry.pass (e : QueueEntry) : QueueEntry := { e with passed := min 7 (e.passed + 1) }

/-- What a scan under way holds: the ledger so far, the entries skipped, the cages granted in order, and whether
a grant lowered a charge. -/
structure Scan where
  state : State
  skipped : List QueueEntry
  granted : List CageId
  lowered : Bool
deriving DecidableEq, Repr

/-- R150: whether the entry of cage `k` fits. -/
def State.fits (s : State) (k : CageId) : Bool :=
  decide
    (s.committed + ((s.cage k).ledger.computed.getD 0) ≤ s.settings.budget + (s.cage k).ledger.charge)

/-- R150: the entry of cage `k` is granted; every entry skipped before it is passed. -/
def Scan.grant (x : Scan) (k : CageId) : Scan :=
  let c := x.state.cage k
  let amount := c.ledger.computed.getD 0
  { state :=
      ((x.state.setCharge k amount true).countDevice .grants 1).countDevice .bypasses x.skipped.length
    skipped := x.skipped.map (·.pass)
    granted := x.granted ++ [k]
    lowered := x.lowered || decide (amount < c.ledger.charge) }

/-- R150: the walk over the entries still to test; it answers the queue it leaves. -/
def Scan.walk (x : Scan) : List QueueEntry → Scan × List QueueEntry
  | [] => (x, x.skipped)
  | e :: rest =>
    if x.state.fits e.cage then (x.grant e.cage).walk rest
    else if e.passed < x.state.settings.bypassLimit then
      { x with skipped := x.skipped ++ [e] }.walk rest
    else (x, x.skipped ++ e :: rest)

/-- R150: one scan; it answers the state with its queue, the cages granted, and whether a charge was lowered. -/
def State.scanOnce (s : State) : State × List CageId × Bool :=
  let r := Scan.walk { state := s, skipped := [], granted := [], lowered := false } s.queue
  ({ r.1.state with queue := r.2 }, r.1.granted, r.1.lowered)

/-- R150: scans are repeated while a scan's grants lower a charge. Each repeat grants an entry, so the length of the
queue bounds them. -/
def State.scanRepeat : Nat → State → State × List CageId
  | 0, s => (s, [])
  | n + 1, s =>
    match s.scanOnce with
    | (t, ks, true) =>
      let r := State.scanRepeat n t
      (r.1, ks ++ r.2)
    | (t, ks, false) => (t, ks)

/-- R150, R151: a scan occasion: the scan, its repeats, and each granted cage's entry to RAMPING in the order of the
grants. -/
def State.scan (s : State) : State :=
  let r := State.scanRepeat (s.queue.length + 1) s
  r.2.foldl (fun t k => t.enterRamping k) r.1

/-! ## Joining, direct charges and returns (R148, R151, R153, R154) -/

/-- R149 to R151: the cage enters ADMITTING, joins the queue, and the scan of its entry is made; WAITING is raised
when it is not granted. -/
def State.joinAndScan (s : State) (k : CageId) : State :=
  let s1 := s.onSeq k fun q => { q with state := .admitting }
  let s2 :=
    { s1 with
      queue :=
        joinQueue s1.queue { cage := k, priority := (s.cage k).settings.priority, passed := 0 } }.scan
  if s2.isQueued k then s2.latch k .waiting else s2

/-- R154: the charge of a cage that holds no grant is set at once; a lower one is a scan occasion. -/
def State.chargeAtOnce (s : State) (k : CageId) (x : Nat) : State :=
  let s1 := s.setCharge k x false
  if x < (s.cage k).ledger.charge then s1.scan else s1

/-- R153: at a qualified removal the entry leaves the queue, the charge is returned, the grant ends and the
over-ceiling flag clears; the scan is made by the caller, once the cage is VACANT. -/
def State.returnCharge (s : State) (k : CageId) : State :=
  ((s.leaveQueue k).setCharge k 0 false).onCage k fun c =>
    { c with ledger := { c.ledger with overCeiling := false } }

end Sys2Proof.Machine
end

