-- ==== Sys2Proof/Machine/PageRead.lean ====
section
/-! DEFINITION. Reading the control pages (R96, R158, R183 to R187): the codes of the coded fields and the byte each
offset of the CTRL and WINDOW pages shows. -/

namespace Sys2Proof.Machine

/-! ## Codes (12.3) -/

def SeqState.code : SeqState → Byte
  | .vacant => 0#8
  | .settling => 1#8
  | .booting => 2#8
  | .identifying => 3#8
  | .admitting => 4#8
  | .ramping => 5#8
  | .replaying => 6#8
  | .verifying => 7#8
  | .serving => 8#8
  | .held => 9#8

def recoveryCode : Option RecoveryKind → Byte
  | none => 0#8
  | some .first => 1#8
  | some .reseat => 2#8
  | some .silent => 3#8
  | some .moduleReset => 4#8
  | some .resume => 5#8
  | some .forced => 6#8

def HoldReason.code : HoldReason → Byte
  | .none => 0#8
  | .bootTimeout => 1#8
  | .identityUnread => 2#8
  | .kin => 3#8
  | .foreign => 4#8
  | .learnOnly => 5#8
  | .overCeiling => 6#8
  | .rampTimeout => 7#8
  | .journalIncomplete => 8#8
  | .replayMismatch => 9#8
  | .moduleUnresponsive => 10#8

def IdOutcome.code : IdOutcome → Byte
  | .none => 0#8
  | .first => 1#8
  | .same => 2#8
  | .unchecked => 3#8
  | .kin => 4#8
  | .foreign => 5#8
  | .unread => 6#8

def Area.code : Area → Byte
  | .lower => 0#8
  | .upper => 1#8

def WriteClass.code : WriteClass → Byte
  | .retain => 0#8
  | .sequence => 1#8
  | .omitted => 2#8
  | .reset => 3#8

def ReadClass.code : ReadClass → Byte
  | .static => 0#8
  | .live => 1#8

def RecordClass.code : RecordClass → Byte
  | .retain => 0#8
  | .sequence => 1#8

def Mark.code : Mark → Byte
  | .pending => 0#8
  | .applied => 1#8
  | .failed => 2#8

def Role.code : Role → Byte
  | .model => 0#8
  | .unit => 1#8

def KinPolicy.code : KinPolicy → Byte
  | .hold => 0#8
  | .replay => 1#8

def Mode.code : Mode → Byte
  | .recover => 0#8
  | .learn => 1#8

/-! ## The window selector (R186) -/

/-- R186: the last valid index of a cage's object kind. -/
def Cage.lastIndex (c : Cage) : Nat :=
  match c.control.windowKind with
  | 0 => c.journal.list.length - 1
  | 1 => 3
  | 2 => 63
  | 3 => 15
  | 4 => 15
  | 5 => 3
  | _ => 0

/-- R186: the effective index. -/
def Cage.effectiveIndex (c : Cage) : Nat := min c.control.windowIndex.toNat c.lastIndex

/-- The profile that an effective index names, with `n` objects a profile. -/
def profileIndex (i n : Nat) : ProfileId := ⟨i / n % 4, by omega⟩

/-! ## The CTRL page (12.3) -/

/-- A number shown in one byte. -/
def num (n : Nat) : Byte := BitVec.ofNat 8 n

/-- The device area, offsets 128 to 175. -/
def State.deviceByte (s : State) (o : Nat) : Byte :=
  let d := s.settings
  match o with
  | 128 => s.mode.code
  | 129 => s.straps.ctrlPage
  | 130 => (s.straps.moduleAddress).setWidth 8
  | 131 => s.flags.setWidth 8
  | 132 => s.enables.setWidth 8
  | 133 => if s.overcommitted then 2#8 else 0#8
  | 134 => hiByte s.summary
  | 135 => loByte s.summary
  | 136 => hiByte d.budget
  | 137 => loByte d.budget
  | 138 => num d.idleCharge
  | 139 => num d.margin
  | 140 => num d.bypassLimit
  | 141 => hiByte s.committed
  | 142 => loByte s.committed
  | 143 => num s.queue.length
  | 144 => hiByte s.poolFree
  | 145 => loByte s.poolFree
  | 146 => num d.retryInterval
  | 147 => num d.retryLimit
  | 148 => num d.hostWait
  | 149 => num d.moduleWait
  | 150 => num d.removalQualify
  | 151 => num d.settleBase
  | 152 => num d.bounceLimit
  | 153 => num d.resetPulse
  | 154 => num d.bootTimeout
  | 155 => num d.rampTimeout
  | 156 => num d.revealMinimum
  | 157 => num d.readyPoll
  | 158 => num d.readBackRetry
  | 159 => num d.probePeriod
  | 160 => num d.lightPoll
  | 161 => num d.monitorPeriod
  | 162 => num d.lightTimeout
  | _ => 0#8

/-- R81, R86: the qualified presence. -/
def Qualifier.qualified (q : Qualifier) : Bool :=
  decide (q.phase = .present) || decide (q.phase = .presentDrop)

/-- A byte of eight named bits, bit 0 first. -/
def flags8 (b0 b1 b2 b3 b4 b5 b6 b7 : Bool) : Byte :=
  bitsOf fun n => match n with
    | 0 => b0
    | 1 => b1
    | 2 => b2
    | 3 => b3
    | 4 => b4
    | 5 => b5
    | 6 => b6
    | _ => b7

/-- The cage area, offsets 176 to 231. -/
def State.cageByte (s : State) (k : CageId) (o : Nat) : Byte :=
  let c := s.cage k
  match o with
  | 176 => c.seq.state.code
  | 177 => recoveryCode c.seq.recovery
  | 178 => c.seq.holdReason.code
  | 179 => c.seq.outcome.code
  | 180 =>
    flags8 c.seq.concealed c.journal.incomplete c.journal.frozen c.seq.dim c.qual.unstable
      c.ledger.grant c.ledger.overCeiling c.seq.baseline.isSome
  | 181 => num c.binding.val
  | 182 => num c.qual.bounces
  | 183 => c.events.flags.setWidth 8
  | 184 => (c.events.flags >>> 8).setWidth 8
  | 185 => c.events.enables.setWidth 8
  | 186 => (c.events.enables >>> 8).setWidth 8
  | 187 => flags8 c.qual.qualified false false false c.seq.dim false false false
  | 188 => hiByte c.ledger.charge
  | 189 => loByte c.ledger.charge
  | 190 => hiByte (c.ledger.computed.getD 0)
  | 191 => loByte (c.ledger.computed.getD 0)
  | 192 => num c.settings.ceiling
  | 193 => num c.settings.priority
  | 194 => num (s.passedCount k)
  | 195 => num c.settings.concealLimit
  | 196 => num c.journal.quota
  | 197 => num (min 255 c.journal.list.length)
  | 198 => match c.ops.cursor.position with
    | some i => num i
    | none => 255#8
  | 199 => num c.ops.cursor.passes
  | 200 =>
    flags8 (decide (c.lines.mrstOwner = .host)) (decide (c.lines.mlowOwner = .host)) false false false
      false false false
  | 201 =>
    flags8 c.lines.mrst c.lines.mlow c.lines.hpd c.lines.hirq c.qual.present c.qual.interrupt false
      false
  | 202 => bitsOf fun n => if h : n < 8 then c.light.lanes[n].lit else false
  | 203 => num c.light.lanes[0].band
  | 204 => num c.light.lanes[1].band
  | 205 => num c.light.lanes[2].band
  | 206 => num c.light.lanes[3].band
  | 207 => num c.light.lanes[4].band
  | 208 => num c.light.lanes[5].band
  | 209 => num c.light.lanes[6].band
  | 210 => num c.light.lanes[7].band
  | _ => 0#8

/-- The command area and window selector, offsets 232 to 255. -/
def Cage.commandByte (c : Cage) (o : Nat) : Byte :=
  match o with
  | 232 => c.control.arg0
  | 233 => c.control.arg1
  | 234 => c.control.command
  | 235 => c.control.result
  | 236 => num c.control.windowKind
  | 237 => c.control.windowIndex
  | 238 => num c.effectiveIndex
  | _ => 0#8

/-- R183: the byte at offset `o` of cage `k`'s CTRL page. -/
def State.ctrlByte (s : State) (k : CageId) (o : Nat) : Byte :=
  if o < 176 then s.deviceByte o else if o < 232 then s.cageByte k o else (s.cage k).commandByte o

/-! ## The WINDOW page (R187) -/

/-- The five fields of a location that may be absent, from offset 0 of the group. -/
def OptLocation.byte (l : OptLocation) (i : Nat) : Byte :=
  match i with
  | 0 => flagByte l.present
  | 1 => l.loc.area.code
  | 2 => l.loc.bank
  | 3 => l.loc.page
  | 4 => l.loc.offset
  | _ => 0#8

/-- Kind 0: a journal record. -/
def Record.byte (r : Record) (o : Nat) : Byte :=
  match o with
  | 129 => r.key.area.code
  | 130 => r.key.bank
  | 131 => r.key.page
  | 132 => num r.key.block.val
  | 133 => r.cls.code
  | 134 => r.cells.mask
  | 135 => r.mark.code
  | 136 => r.cells.byte 0
  | 137 => r.cells.byte 1
  | 138 => r.cells.byte 2
  | 139 => r.cells.byte 3
  | 140 => r.cells.byte 4
  | 141 => r.cells.byte 5
  | 142 => r.cells.byte 6
  | 143 => r.cells.byte 7
  | _ => 0#8

/-- R65: the journal view at an index. -/
def Journal.byte (j : Journal) (i o : Nat) : Byte :=
  match j.list[i]? with
  | some r => r.byte o
  | none => if o = 128 ∧ j.list = [] then 1#8 else 0#8

/-- Kind 1: a profile header. -/
def Profile.headerByte (p : Profile) (o : Nat) : Byte :=
  match o with
  | 128 => p.pageSelect
  | 129 => p.bankSelect.getD 255#8
  | 130 => p.writeDefault.code
  | 131 => p.readDefault.code
  | 132 => p.kin.code
  | 133 => num p.bootDelay
  | 134 => flagByte p.ready.present
  | 135 => p.ready.loc.area.code
  | 136 => p.ready.loc.bank
  | 137 => p.ready.loc.page
  | 138 => p.ready.loc.offset
  | 139 => p.ready.mask
  | 140 => p.ready.value
  | 141 => p.power.byte 0
  | 142 => p.power.byte 1
  | 143 => p.power.byte 2
  | 144 => p.power.byte 3
  | 145 => p.power.byte 4
  | 146 => p.probe.byte 0
  | 147 => p.probe.byte 1
  | 148 => p.probe.byte 2
  | 149 => p.probe.byte 3
  | 150 => p.probe.byte 4
  | 151 => num p.lane.count
  | 152 => p.lane.lane0.byte 0
  | 153 => p.lane.lane0.byte 1
  | 154 => p.lane.lane0.byte 2
  | 155 => p.lane.lane0.byte 3
  | 156 => p.lane.lane0.byte 4
  | 157 => p.lane.required
  | 158 => hiByte p.lane.lit
  | 159 => loByte p.lane.lit
  | 160 => hiByte p.lane.dark
  | 161 => loByte p.lane.dark
  | 162 => num p.lane.litCount
  | 163 => num p.lane.darkCount
  | _ => 0#8

/-- Kind 2: a region entry. -/
def RegionEntry.byte (e : RegionEntry) (o : Nat) : Byte :=
  match o with
  | 128 => flagByte e.used
  | 129 => e.area.code
  | 130 => flags8 e.bankAny e.pageAny false false false false false false
  | 131 => e.bank
  | 132 => e.page
  | 133 => e.first
  | 134 => e.last
  | 135 => e.writeClass.code
  | 136 => e.readClass.code
  | 137 => flagByte e.readBack
  | 138 => num e.settle
  | _ => 0#8

/-- Kinds 3 and 4: a span; only an identity span has a role. -/
def Span.byte (sp : Span) (identity : Bool) (o : Nat) : Byte :=
  match o with
  | 128 => flagByte sp.used
  | 129 => sp.loc.area.code
  | 130 => sp.loc.bank
  | 131 => sp.loc.page
  | 132 => sp.loc.offset
  | 133 => num sp.length
  | 134 => if identity then sp.role.code else 0#8
  | _ => 0#8

/-- Kind 5: a baseline slot (R125). -/
def baselineByte (b : Option Baseline) (i : Fin 4) (o : Nat) : Byte :=
  match b with
  | none => 0#8
  | some x =>
    if o = 128 then 1#8
    else
      match x[i] with
      | none => 0#8
      | some sl =>
        if o = 129 then 1#8 + sl.role.code
        else if o = 130 then num sl.bytes.length
        else if 132 ≤ o ∧ o < 164 then sl.bytes.getD (o - 132) 0#8
        else 0#8

/-- One byte of a number shown in two, more significant first, by the parity of its place. -/
def pairByte (x : Nat) (second : Bool) : Byte := if second then loByte x else hiByte x

/-- Kind 6: the snapshot records (R180). -/
def State.snapshotByte (s : State) (k : CageId) (o : Nat) : Byte :=
  let c := (s.cage k).events.snapshot
  let d := s.snapshot
  if o = 128 then flagByte c.taken
  else if o < 129 then 0#8
  else if o < 171 then pairByte (c.counters.toList.getD ((o - 129) / 2) 0) (decide (o % 2 = 0))
  else if o < 173 then pairByte c.lastAbsence (decide (o % 2 = 0))
  else if o < 175 then pairByte c.lastRecovery (decide (o % 2 = 0))
  else if o = 175 then flagByte d.taken
  else if o < 184 then pairByte (d.counters.toList.getD ((o - 176) / 2) 0) (decide (o % 2 = 1))
  else 0#8

/-- An index within a profile's objects. -/
def Profile.entryAt (p : Profile) (i : Nat) : RegionEntry := p.entries[(⟨i % 16, by omega⟩ : Fin 16)]

def Profile.spanAt (p : Profile) (i : Nat) : Span := p.idSpans[(⟨i % 4, by omega⟩ : Fin 4)]

def Profile.prefetchAt (p : Profile) (i : Nat) : Span := p.prefetch[(⟨i % 4, by omega⟩ : Fin 4)]

/-- R187: the byte at offset `o` of cage `k`'s WINDOW page. -/
def State.windowByte (s : State) (k : CageId) (o : Nat) : Byte :=
  let c := s.cage k
  let i := c.effectiveIndex
  match c.control.windowKind with
  | 0 => c.journal.byte i o
  | 1 => (s.profile (profileIndex i 1)).headerByte o
  | 2 => ((s.profile (profileIndex i 16)).entryAt i).byte o
  | 3 => ((s.profile (profileIndex i 4)).spanAt i).byte true o
  | 4 => ((s.profile (profileIndex i 4)).prefetchAt i).byte false o
  | 5 => baselineByte c.seq.baseline ⟨i % 4, by omega⟩ o
  | _ => s.snapshotByte k o

/-! ## Reads (R183, R184) -/

/-- R183: the byte a control page shows. -/
def State.pageByte (s : State) (k : CageId) (page : ControlPage) (o : Byte) : Byte :=
  match page with
  | .ctrl => s.ctrlByte k o.toNat
  | .window => s.windowByte k o.toNat

/-- R184: the offset holds the more significant byte of a two-byte quantity. -/
def State.startsPair (s : State) (k : CageId) (page : ControlPage) (o : Byte) : Bool :=
  let n := o.toNat
  match page with
  | .ctrl => [136, 141, 144, 188, 190].contains n
  | .window =>
    match (s.cage k).control.windowKind with
    | 1 => [158, 160].contains n
    | 6 =>
      (decide (129 ≤ n) && decide (n < 175) && decide (n % 2 = 1)) ||
        (decide (176 ≤ n) && decide (n < 184) && decide (n % 2 = 0))
    | _ => false

/-- R184: a control-page byte read in a transfer that may hold a captured byte: the byte answered, and the capture it
leaves. -/
def State.readPage (s : State) (k : CageId) (page : ControlPage) (o : Byte)
    (capture : Option (ControlPage × Byte × Byte)) : Byte × Option (ControlPage × Byte × Byte) :=
  let v := match capture with
    | some (p, q, x) => if p = page ∧ q = o then x else s.pageByte k page o
    | none => s.pageByte k page o
  (v, if s.startsPair k page o then some (page, o + 1#8, s.pageByte k page (o + 1#8)) else none)

end Sys2Proof.Machine
end

