-- ==== Sys2Proof/Machine/Replay.lean ====
section
/-! DEFINITION. Replay of a cage's journal (R132 to R139): the runs of a record, its bursts and their reports, the
walk over the list by passes, and the entry to VERIFYING (R106). -/

namespace Sys2Proof.Machine

/-! ## Runs (R134) -/

/-- One position of the walk that forms the runs: a position to write extends the open run or opens one, any other
closes it. -/
def runStep (acc : List Run × Option Run) (p : Nat) (written : Bool) : List Run × Option Run :=
  match written, acc.2 with
  | true, some r => (acc.1, some { r with length := r.length + 1 })
  | true, none => (acc.1, some { first := p, length := 1 })
  | false, some r => (acc.1 ++ [r], none)
  | false, none => acc

/-- R134: the runs of a record: longest sequences of masked positions, none at a select offset. -/
def runsOf (p : Profile) (r : Record) : List Run :=
  let x := (List.finRange 8).foldl
    (fun acc i => runStep acc i.val (r.cells[i].isSome && !p.isSelect (r.key.offset i.val)))
    (([] : List Run), (none : Option Run))
  x.1 ++ x.2.toList

/-- The run's stretch of module memory. -/
def Run.target (u : Run) (key : Key) : Target :=
  { loc := { area := key.area, bank := key.bank, page := key.page, offset := key.offset u.first }
    length := u.length }

/-- The positions of a run. -/
def Run.positions (u : Run) : List (Fin 8) :=
  (List.finRange 8).filter fun i => decide (u.first ≤ i.val) && decide (i.val < u.first + u.length)

/-- The record's data at a run's positions, as it stands. -/
def Run.bytes (u : Run) (r : Record) : List Byte := u.positions.map fun i => r.cells.byte i

/-- R134: the regions of a run's bytes, classified on the key's bank and page. -/
def Run.regions (u : Run) (p : Profile) (key : Key) : List Region :=
  u.positions.filterMap fun i => p.classify key.bank key.page (key.offset i.val)

/-- R134: a run is read back when any of its bytes lies in a region with read-back on. -/
def readBackOf (rs : List Region) : Bool := rs.any (·.readBack)

/-- R134: the largest write-settle time among regions. -/
def settleOf (rs : List Region) : Nat := rs.foldl (fun m r => max m r.settle) 0

/-! ## The cursor -/

def State.onCursor (s : State) (k : CageId) (f : Cursor → Cursor) : State :=
  s.onOps k fun o => { o with cursor := f o.cursor }

/-- The record at the cursor. -/
def Cage.currentRecord (c : Cage) : Option Record := c.ops.cursor.position.bind (c.journal.list[·]?)

/-- R135.1: the write burst of the current run is raised, with the record's data as it stands. -/
def State.raiseRun (s : State) (k : CageId) : State :=
  match (s.cage k).currentRecord, (s.cage k).ops.cursor.runs with
  | some r, u :: _ =>
    let bytes := u.bytes r
    (s.onCursor k fun x => { x with phase := .write, carried := bytes }).raise k .sequencer
      { purpose := .replayWrite, target := u.target r.key, data := some bytes }
  | _, _ => s

/-- R44, R134: the current run begins: its regions are classified as its first write burst is raised, and say for all
its bursts whether it is read back, and how long its record settles. -/
def State.beginRun (s : State) (k : CageId) : State :=
  match (s.cage k).currentRecord, (s.cage k).ops.cursor.runs with
  | some r, u :: _ =>
    let rs := u.regions (s.profileOf k) r.key
    (s.onCursor k fun x =>
      { x with check := readBackOf rs, settle := max x.settle (settleOf rs) }).raiseRun k
  | _, _ => s

/-- R135.3: the read-back of the current run is raised. -/
def State.raiseReadBack (s : State) (k : CageId) : State :=
  match (s.cage k).currentRecord, (s.cage k).ops.cursor.runs with
  | some r, u :: _ =>
    (s.onCursor k fun x => { x with phase := .readBack }).raise k .sequencer
      { purpose := .readBack, target := u.target r.key, data := none }
  | _, _ => s

/-- R134: the PENDING record at position `i` becomes the target and its first run is written. -/
def State.startRecord (s : State) (k : CageId) (i : Nat) (runs : List Run) : State :=
  ((s.onJournal k fun j => { j with target := some (i, false) }).onCursor k fun x =>
    { x with position := some i, runs := runs, rewrites := 0, settle := 0 }).beginRun k

/-- R134: a PENDING record with no run finishes at once (R137). -/
def State.finishEmpty (s : State) (k : CageId) (i : Nat) : State :=
  s.onCage k fun c => { c with journal := c.journal.finish i }.count .recordsReplayed

/-- R134, R137: the walk over list positions: it stops at the first PENDING record with a run, whose first write it
raises. It answers whether it stopped. -/
def State.walkRecords (s : State) (k : CageId) : List Nat → State × Bool
  | [] => (s, false)
  | i :: rest =>
    match (s.cage k).journal.list[i]? with
    | none => (s, false)
    | some r =>
      if r.mark = .pending then
        match runsOf (s.profileOf k) r with
        | [] => (s.finishEmpty k i).walkRecords k rest
        | runs => (s.startRecord k i runs, true)
      else s.walkRecords k rest

/-- R106: the cage enters VERIFYING. -/
def State.enterVerifying (s : State) (k : CageId) : State :=
  (s.onSeq k fun q => { q with state := .verifying, verified := true }).beginVerify k

/-- R105: replay has finished: VERIFYING when the required-lane mask asks for it, else the serving check. -/
def State.finishReplay (s : State) (k : CageId) : State :=
  let resumed := (s.cage k).ops.cursor.resumed
  let s1 := s.onCursor k fun _ => Cursor.reset
  if (s.profileOf k).requiresAny = true ∧ (s.cage k).seq.recovery ≠ some .first ∧ resumed = false then
    s1.enterVerifying k
  else s1.onSeq k fun q => { q with serveCheck := true }

/-- R133: a pass begins at the head. -/
def State.beginPass (s : State) (k : CageId) : State :=
  s.onCursor k fun x => { x with position := some 0, passes := min 255 (x.passes + 1) }

/-- The positions of the journal's list from `i` on. -/
def Cage.positionsFrom (c : Cage) (i : Nat) : List Nat :=
  (List.range c.journal.list.length).drop i

/-- R133, R137: a new pass from the head, for a journal that has PENDING records: it stops at the first record to
write. If every one finishes at once, nothing is PENDING at its end and replay finishes. -/
def State.runPass (s : State) (k : CageId) : State :=
  let s1 := s.beginPass k
  match s1.walkRecords k ((s1.cage k).positionsFrom 0) with
  | (t, true) => t
  | (t, false) => t.finishReplay k

/-- R137: the cursor goes on from position `i`; at the end of the pass a new one begins while a record is PENDING. -/
def State.goOn (s : State) (k : CageId) (i : Nat) : State :=
  match s.walkRecords k ((s.cage k).positionsFrom i) with
  | (t, true) => t
  | (t, false) => if (t.cage k).journal.anyPending then t.runPass k else t.finishReplay k

/-- R133: replay starts, the cage being REPLAYING. The rows are taken in their order, and the first of them goes by the recovery's
kind, also after an outcome FIRST in a recovery of another kind (R102, assumption 33). -/
def State.startReplay (s : State) (k : CageId) (resumed : Bool) : State :=
  let s1 := s.onCursor k fun _ => { Cursor.reset with resumed := resumed }
  let kind := (s.cage k).seq.recovery
  if kind = some .first then s1.finishReplay k
  else if resumed then (s1.beginPass k).goOn k 0
  else if (s.cage k).journal.incomplete = true ∧ kind ≠ some .forced then
    s1.enterHeld k .journalIncomplete
  else ((s1.onJournal k (·.markAllPending)).beginPass k).goOn k 0

/-- R105: the cage enters REPLAYING. -/
def State.enterReplaying (s : State) (k : CageId) (resumed : Bool) : State :=
  (s.onSeq k fun q => { q with state := .replaying }).startReplay k resumed

/-! ## Records and runs done (R135, R137) -/

/-- R137: the settle wait is over; the cursor moves on. -/
def State.settleOver (s : State) (k : CageId) : State :=
  match (s.cage k).ops.cursor.position with
  | some i => (s.onCursor k fun x => { x with timer := none }).goOn k (i + 1)
  | none => s

/-- R137: the record at the cursor finishes, and the settle wait begins; a wait of 0 ends at once. -/
def State.finishRecord (s : State) (k : CageId) : State :=
  match (s.cage k).ops.cursor.position with
  | none => s
  | some i =>
    let ms := (s.cage k).ops.cursor.settle * 10
    let s1 :=
      (s.onCage k fun c => { c with journal := c.journal.finish i }.count .recordsReplayed).onCursor k
        fun x => { x with phase := .settle, timer := if ms = 0 then none else some (Timer.start ms) }
    if ms = 0 then s1.settleOver k else s1

/-- R135.4: the current run is done. -/
def State.runDone (s : State) (k : CageId) : State :=
  let s1 := s.onCursor k fun x => { x with runs := x.runs.tail, rewrites := 0 }
  if (s1.cage k).ops.cursor.runs.isEmpty then s1.finishRecord k else s1.beginRun k

/-! ## Reports (R135, R136) -/

/-- R136: a failed burst of replay: retried after the retry interval, or exhausted. -/
def State.replayFailed (s : State) (k : CageId) : State :=
  let n := (s.cage k).ops.cursor.failures + 1
  if n < s.settings.retryLimit then
    s.onOps k fun o =>
      { o with
        cursor := { o.cursor with failures := n }
        retry := some (Timer.start s.settings.retryInterval) }
  else s.enterHeld k .moduleUnresponsive

/-- R135: a COMPLETE write or read-back of the current run. -/
def State.replayComplete (s : State) (k : CageId) (received : List Byte) : State :=
  let s1 := s.onCursor k fun x => { x with failures := 0 }
  let x := (s.cage k).ops.cursor
  match x.phase with
  | .write => if x.check then s1.raiseReadBack k else s1.runDone k
  | .readBack =>
    if received = x.carried then s1.runDone k
    else if x.rewrites < s.settings.readBackRetry then
      (s1.onCursor k fun y => { y with rewrites := y.rewrites + 1 }).raiseRun k
    else
      (match x.position with
        | some i => s1.onJournal k fun j => { j.setMark i .failed with target := none }
        | none => s1).enterHeld k .replayMismatch
  | .idle | .settle => s1

/-- R135, R136: a report of a replay burst. -/
def State.replayReport (s : State) (k : CageId) (r : Report) : State :=
  match r.outcome with
  | .complete => s.replayComplete k r.received
  | .nacked | .stalled => s.replayFailed k
  | .aborted => s

/-- R136: the retry interval is over: the same burst is raised again. -/
def State.replayRetry (s : State) (k : CageId) : State :=
  match (s.cage k).ops.cursor.phase with
  | .write => s.raiseRun k
  | .readBack => s.raiseReadBack k
  | .idle | .settle => s

end Sys2Proof.Machine
end

