-- ==== Sys2Proof/Machine/Identify.lean ====
section
/-! DEFINITION. Identification (R128 to R130): its reads, the comparison with the baseline (R126), the outcomes
(R101, R102, R129) and going on to power (R103, R148). -/

namespace Sys2Proof.Machine

/-! ## Going on to power (R103, R119, R148) -/

/-- R103, R148: an outcome goes on to power; `replay` when a held grant passes straight to REPLAYING (R119). -/
def State.goOnToPower (s : State) (k : CageId) (replay : Bool) : State :=
  if (s.cage k).ledger.grant then
    if replay then s.enterReplaying k false else s.enterRamping k
  else
    let s1 := s.compute k
    let l := (s1.cage k).ledger
    if (s.cage k).lines.mlowOwner = .host then
      (s1.chargeAtOnce k (l.computed.getD 0)).enterReplaying k false
    else if l.overCeiling then s1.enterHeld k .overCeiling
    else s1.joinAndScan k

/-! ## The comparison (R126) -/

/-- How one slot is judged. -/
inductive SlotVerdict
  | agrees
  | differsUnit
  | differsModel
deriving DecidableEq, Repr

/-- R126: a baseline slot against the bytes read now. -/
def judgeSlot (was now : Option BaselineSlot) : SlotVerdict :=
  match was, now with
  | none, none => .agrees
  | some a, some b =>
    if a.role = b.role ∧ a.bytes.length = b.bytes.length then
      if a.bytes = b.bytes then .agrees
      else
        match a.role with
        | .unit => .differsUnit
        | .model => .differsModel
    else .differsModel
  | _, _ => .differsModel

/-- R126: the outcome of a comparison. -/
def compareBaseline (was now : Baseline) : IdOutcome :=
  if (List.finRange 4).any fun i => decide (judgeSlot was[i] now[i] = .differsModel) then .foreign
  else if (List.finRange 4).any fun i => decide (judgeSlot was[i] now[i] = .differsUnit) then .kin
  else .same

/-- R129: the outcome at the end of the reads. -/
def outcomeOf (baseline : Option Baseline) (x : Identification) : IdOutcome :=
  match baseline with
  | none => .first
  | some b => if x.anySpan then compareBaseline b x.got else .unchecked

/-! ## Acting on an outcome (R101, R102, R129, R73) -/

/-- R101: what an outcome does next. -/
inductive NextStep
  | power
  | learn
  | hold (reason : HoldReason)
deriving DecidableEq, Repr

/-- R101: whether the outcome makes the bytes read the baseline, under the KIN policy. -/
def IdOutcome.captures (o : IdOutcome) (kin : KinPolicy) : Bool :=
  decide (o = .first) || (decide (o = .kin) && decide (kin = .replay))

/-- R61: whether the outcome freezes the journal. -/
def IdOutcome.freezes (o : IdOutcome) (kin : KinPolicy) : Bool :=
  decide (o = .foreign) || (decide (o = .kin) && decide (kin = .hold))

/-- R73: whether the outcome carries the cage's lines across. -/
def IdOutcome.revives (o : IdOutcome) : Bool := decide (o = .same) || decide (o = .unchecked)

/-- R68: the standing an outcome sets. -/
def IdOutcome.standing (o : IdOutcome) (kin : KinPolicy) : Standing :=
  if o.freezes kin || decide (o = .unread) then .unmatched else .matched

/-- R101, R102: where the cage goes, by the outcome, the KIN policy and the device mode. -/
def IdOutcome.next (o : IdOutcome) (kin : KinPolicy) (mode : Mode) : NextStep :=
  match o with
  | .foreign => .hold .foreign
  | .unread | .none => .hold .identityUnread
  | .first => .power
  | .kin =>
    match kin with
    | .hold => .hold .kin
    | .replay => match mode with
      | .learn => .learn
      | .recover => .power
  | .same | .unchecked => match mode with
    | .learn => .learn
    | .recover => .power

/-- R129: identification reaches outcome `o`: the baseline and the journal, the cache with the held bytes, the reveal
of an outcome other than SAME or UNCHECKED, and the next step. -/
def State.reachOutcome (s : State) (k : CageId) (x : Identification) (o : IdOutcome) : State :=
  let kin := (s.profileOf k).kin
  let s1 := s.onCage k fun c =>
    { c with
      seq :=
        { c.seq with
          outcome := o
          identified := true
          baseline := if o.captures kin then some x.got else c.seq.baseline }
      ops := { c.ops with identification := none }
      journal := if o.freezes kin then { c.journal with frozen := true } else c.journal
      standing := o.standing kin }
  let s2 := (if o.revives then s1.reviveLines k else s1.freeLines k).fillCache k x.held
  let s3 := if o.captures kin then s2.reveal k else s2
  match o.next kin s.mode with
  | .power => s3.goOnToPower k false
  | .learn => s3.enterHeld k .learnOnly
  | .hold reason => s3.enterHeld k reason

/-! ## The reads (R128) -/

def IdRead.request : IdRead → Request
  | .span _ _ t => { purpose := .identity, target := t, data := none }
  | .power t => { purpose := .identity, target := t, data := none }
  | .prefetch t => { purpose := .prefetch, target := t, data := none }

/-- R128: the reads of an identification, in order. -/
def Profile.idReads (p : Profile) : List IdRead :=
  ((List.finRange 4).filterMap fun i =>
    if p.idSpans[i].used then some (IdRead.span i p.idSpans[i].role p.idSpans[i].target) else none) ++
  (match p.power.get? with
    | some l => [IdRead.power l.target]
    | none => []) ++
  ((List.finRange 4).filterMap fun i =>
    if p.prefetch[i].used then some (IdRead.prefetch p.prefetch[i].target) else none)

/-- Four empty slots. -/
def emptyBaseline : Baseline := Vector.replicate 4 none

/-- R128: the next read is raised, or the outcome is reached when none is left. -/
def State.nextRead (s : State) (k : CageId) (x : Identification) : State :=
  match x.todo with
  | [] => s.reachOutcome k x (outcomeOf (s.cage k).seq.baseline x)
  | r :: _ =>
    (s.onOps k fun o => { o with identification := some x }).raise k .sequencer r.request

/-- R128: the cage enters IDENTIFYING and identification begins. -/
def State.enterIdentifying (s : State) (k : CageId) : State :=
  let p := s.profileOf k
  (s.onSeq k fun q => { q with state := .identifying, declared := none }).nextRead k
    { todo := p.idReads, got := emptyBaseline,
      anySpan := (List.finRange 4).any fun i => p.idSpans[i].used, held := [], attempt := [], failures := 0 }

/-- R128: what a COMPLETE read keeps besides the bytes for the cache. -/
def State.keepRead (s : State) (k : CageId) (x : Identification) (r : IdRead) (bytes : List Byte) :
    State × Identification :=
  match r with
  | .span i role _ =>
    (s, { x with got := x.got.set i (some { role := role, bytes := bytes }) })
  | .power _ => (s.onSeq k fun q => { q with declared := some (bytes.headD 0#8) }, x)
  | .prefetch _ => (s, x)

/-- The read under way is done or given up: what its attempts brought is held with the rest. -/
def Identification.keep (x : Identification) : Identification :=
  { x with held := x.held ++ x.attempt, attempt := [] }

/-- R128, R73: a failed read: retried, given up, or UNREAD, whose held bytes are those of the reads that completed: what
the STALLED attempts of the exhausted read brought is left out (assumption 26). -/
def State.readFailed (s : State) (k : CageId) (x : Identification) (r : IdRead) : State :=
  if x.failures + 1 < s.settings.retryLimit then
    s.onOps k fun o =>
      { o with
        identification := some { x with failures := x.failures + 1 }
        retry := some (Timer.start s.settings.retryInterval) }
  else
    match r with
    | .prefetch _ => s.nextRead k { x.keep with todo := x.todo.tail, failures := 0 }
    | .span _ _ _ | .power _ => s.reachOutcome k x .unread

/-- The bytes a report holds for the cache: of a COMPLETE or STALLED read (R70). -/
def Report.cacheBytes (r : Report) (p : Profile) : List CacheByte :=
  match r.outcome with
  | .complete | .stalled => p.cacheBytes r.bank r.page r.request.target.loc.offset r.received
  | .nacked | .aborted => []

/-- R128: a report of the read under way. -/
def State.idReport (s : State) (k : CageId) (x : Identification) (r : Report) : State :=
  match x.todo with
  | [] => s
  | d :: rest =>
    let y := { x with attempt := x.attempt ++ r.cacheBytes (s.profileOf k) }
    match r.outcome with
    | .complete =>
      let z := s.keepRead k y.keep d r.received
      z.1.nextRead k { z.2 with todo := rest, failures := 0 }
    | .nacked | .stalled => s.readFailed k y d
    | .aborted => s

end Sys2Proof.Machine
end

