-- ==== Sys2Proof/Machine/Service.lean ====
section
/-! DEFINITION. Service (chapters 7 and 8): recoveries that begin in service (R112), restarts at BOOTING (R111), MRST
assertions and releases (R93), reset pulses (R90), the state probe (R140 to R142), the baseline capture (R131),
and the entry to SERVING (R107). -/

namespace Sys2Proof.Machine

/-! ## Leaving service for BOOTING (R112, R117) -/

/-- R112, R117: a recovery of the given kind begins in SERVING or HELD: the operations of the state end and the cage
goes to BOOTING, its charge and grant kept. -/
def State.departService (s : State) (k : CageId) (kind : RecoveryKind) : State :=
  (((s.endOps k).endLight k).startRecovery k kind).onSeq k fun q =>
    { q with state := .booting, verified := false }

/-- R112: a recovery begins in SERVING or HELD; the boot wait begins when MRST allows it, and a transfer that was
being forwarded is cut. -/
def State.recoverFromService (s : State) (k : CageId) (kind : RecoveryKind) : State :=
  ((s.departService k kind).beginBootWait k).leaveService k

/-- R112: a SILENT recovery. -/
def State.silentRecovery (s : State) (k : CageId) : State := s.recoverFromService k .silent

/-- R11, R112: a RESET-class write reported in SERVING or HELD. -/
def State.resetWrite (s : State) (k : CageId) : State :=
  if (s.cage k).seq.state.inService then s.recoverFromService k .moduleReset else s

/-! ## Restarts (R111) -/

/-- R111: the recovery restarts at BOOTING. A waiter leaves the queue, which is a scan occasion (R153). -/
def State.restart (s : State) (k : CageId) : State :=
  let s1 := (s.endOps k).endLight k
  if (s.cage k).seq.state = .admitting then ((s1.leaveQueue k).enterBooting k).scan
  else s1.enterBooting k

/-! ## MRST (R90, R93) -/

/-- R93: MRST has been asserted, by any cause. In ADMITTING it restarts the recovery, as R111 says, though R153 has the LINE command
not move a cage out of ADMITTING (assumption 35). -/
def State.mrstAsserted (s : State) (k : CageId) : State :=
  let s1 := s.losePage k
  match (s.cage k).seq.state with
  | .serving | .held => s1.recoverFromService k .moduleReset
  | .booting => s1.endWait k
  | .identifying | .admitting | .ramping | .replaying | .verifying => s1.restart k
  | .vacant | .settling => s1

/-- R93, R100: MRST has been released. -/
def State.mrstReleased (s : State) (k : CageId) : State := s.beginBootWait k

/-- R90: a reset pulse is asked for. On an ENGINE-owned line the pulse timer starts and the line is asserted at once;
on a HOST-owned line no pulse is made and the requester is told at once that it has ended. -/
def State.askPulse (s : State) (k : CageId) : State :=
  if (s.cage k).lines.mrstOwner = .engine then
    (s.onCage k fun c =>
      { c with
        lines := { c.lines with pulse := some (Timer.start s.settings.resetPulse) } }).mrstAsserted k
  else s.beginBootWait k

/-! ## The probe timer (R141) -/

/-- R141: the probe timer starts with the probe period; with a period of 0 it does not. -/
def State.startProbeTimer (s : State) (k : CageId) : State :=
  s.onSeq k fun q =>
    { q with
      probeTimer :=
        if s.settings.probePeriod = 0 then none
        else some (Timer.start (s.settings.probePeriod * 1000)) }

/-! ## The baseline capture (R131) -/

/-- R131: the spans of a capture, in order. -/
def Profile.captureSpans (p : Profile) : List (Fin 4 × Role × Target) :=
  (List.finRange 4).filterMap fun i =>
    if p.idSpans[i].used then some (i, p.idSpans[i].role, p.idSpans[i].target) else none

/-- R131: for ADOPT, the leading spans that VALID lines cover are taken from them. -/
def State.takeCovered (s : State) (k : CageId) (got : Baseline) :
    List (Fin 4 × Role × Target) → Baseline × List (Fin 4 × Role × Target)
  | [] => (got, [])
  | (i, role, t) :: rest =>
    match s.coveredSpan k t with
    | some bytes => s.takeCovered k (got.set i (some { role := role, bytes := bytes })) rest
    | none => (got, (i, role, t) :: rest)

/-- A probe is running, or its discarded report is still awaited: the capture raises no burst (R118, R142). -/
def Operations.probing (o : Operations) : Bool :=
  o.probe.isSome || decide (o.glitchWait = some .report)

/-- R131: the capture completes: its bytes are the baseline; CAGE_CLEAR's capture hands its bytes to the cache and
sets the standing (R75). A glitch probe that waits is started by the caller. -/
def State.completeCapture (s : State) (k : CageId) (x : Capture) : State :=
  let s1 := (s.onSeq k fun q => { q with baseline := some x.got }).onOps k fun o =>
    { o with capture := none }
  match x.origin with
  | .clear => (s1.setStanding k .matched).fillCache k x.held
  | .adopt | .forced => s1

/-- R131: the capture fails: the baseline is absent; CAGE_CLEAR's standing becomes UNMATCHED (R75). -/
def State.failCapture (s : State) (k : CageId) (x : Capture) : State :=
  let s1 := (s.onSeq k fun q => { q with baseline := none }).onOps k fun o =>
    { o with capture := none }
  match x.origin with
  | .clear => s1.setStanding k .unmatched
  | .adopt | .forced => s1

/-- R131: the capture goes on: spans covered by the cache are taken, the next other span is read, and with none left
the capture completes. It answers whether the capture is over. -/
def State.captureStep (s : State) (k : CageId) (x : Capture) : State × Bool :=
  let r := match x.origin with
    | .adopt => s.takeCovered k x.got x.todo
    | .clear | .forced => (x.got, x.todo)
  let y := { x with got := r.1, todo := r.2 }
  match y.todo with
  | [] => (s.completeCapture k y, true)
  | (_, _, t) :: _ =>
    let s1 := s.onOps k fun o => { o with capture := some y }
    if (s.cage k).ops.probing then (s1, false)
    else (s1.raise k .sequencer { purpose := .identity, target := t, data := none }, false)

/-! ## The state probe (R140) -/

/-- R140, R141: a probe result that leaves the cage SERVING: the probe timer starts again, and a capture that waited
goes on. -/
def State.probeHeld (s : State) (k : CageId) : State :=
  let s1 := (s.onOps k fun o => { o with probe := none, retry := none }).startProbeTimer k
  match (s1.cage k).ops.capture with
  | some x => (s1.captureStep k x).1
  | none => s1

/-- R140: a probe with no comparison: none for a periodic probe, lost for a glitch probe. -/
def State.probeNone (s : State) (k : CageId) (glitch : Bool) : State :=
  if glitch then s.silentRecovery k else s.probeHeld k

/-- R140: a state probe starts. -/
def State.startProbe (s : State) (k : CageId) (glitch : Bool) : State :=
  let s1 := s.onOps k fun o => { o with glitchWait := if glitch then none else o.glitchWait }
  match (s.profileOf k).usableProbe with
  | none => s1.probeNone k glitch
  | some l =>
    match (s.cage k).journal.expected l with
    | none => s1.probeNone k glitch
    | some _ =>
      (s1.onOps k fun o =>
        { o with probe := some { glitch := glitch, loc := l, failures := 0 } }).raise k .sequencer
        { purpose := .probe, target := l.target, data := none }

/-- R140: a report of the probe's read. -/
def State.probeReport (s : State) (k : CageId) (x : Probe) (r : Report) : State :=
  match r.outcome with
  | .complete =>
    match (s.cage k).journal.expected x.loc with
    | none => s.probeNone k x.glitch
    | some v => if r.received = [v] then s.probeHeld k else s.silentRecovery k
  | .nacked | .stalled =>
    if x.failures + 1 < s.settings.retryLimit then
      s.onOps k fun o =>
        { o with
          probe := some { x with failures := x.failures + 1 }
          retry := some (Timer.start s.settings.retryInterval) }
    else s.silentRecovery k
  | .aborted => s

/-! ## The capture's start, end and reports (R131, R142) -/

/-- R142: a glitch probe that waited behind the capture starts when the capture is over. -/
def State.afterCapture (s : State) (k : CageId) : State :=
  if (s.cage k).ops.glitchWait = some .capture then s.startProbe k true else s

/-- R131: the capture goes on; when it is over, a waiting glitch probe starts. -/
def State.captureGo (s : State) (k : CageId) (x : Capture) : State :=
  match s.captureStep k x with
  | (t, true) => t.afterCapture k
  | (t, false) => t

/-- R131: a capture starts, the baseline becoming absent. A capture already running ends: its request is withdrawn,
and its burst's report will be discarded. -/
def State.startCapture (s : State) (k : CageId) (origin : CaptureOrigin) : State :=
  let s0 :=
    if (s.cage k).ops.capture.isSome && !(s.cage k).ops.probing then
      (s.onOps k fun o => { o with retry := none }).withdraw k .sequencer
    else s
  (s0.onSeq k fun q => { q with baseline := none }).captureGo k
    { origin := origin, todo := (s.profileOf k).captureSpans, got := emptyBaseline, held := [],
      failures := 0 }

/-- R131: a report of the capture's read. -/
def State.captureReport (s : State) (k : CageId) (x : Capture) (r : Report) : State :=
  match x.todo with
  | [] => s
  | (i, role, _) :: rest =>
    let y := { x with held := x.held ++ r.cacheBytes (s.profileOf k) }
    match r.outcome with
    | .complete =>
      s.captureGo k
        { y with
          got := y.got.set i (some { role := role, bytes := r.received })
          todo := rest
          failures := 0 }
    | .nacked | .stalled =>
      if x.failures + 1 < s.settings.retryLimit then
        s.onOps k fun o =>
          { o with
            capture := some { y with failures := x.failures + 1 }
            retry := some (Timer.start s.settings.retryInterval) }
      else (s.failCapture k y).afterCapture k
    | .aborted => s

/-! ## Entry to SERVING (R107, R118 to R120, R141, R167) -/

/-- What every entry to SERVING does: the hold ends, the probe timer starts, monitoring begins; `keep` when the lanes
keep their states (R167). The first sample is raised by the caller. RELEASE and ADOPT enter at once, also with a
concealed write transfer of the cage still in progress (assumption 23). -/
def State.beginServing (s : State) (k : CageId) (keep : Bool) : State :=
  ((s.onSeq k fun q => { q with state := .serving, holdReason := .none }).startProbeTimer k).beginMonitor
    k keep

/-- R21: the Light Monitor's first sample and the sequencer's capture begin waiting for the slot at the same moment;
either may go first. -/
def State.sampleAndCapture (s : State) (k : CageId) (origin : CaptureOrigin) : State :=
  let s1 := { s with ties := s.ties + 1 }
  if Config.tieBreak s.ties then (s1.raiseSample k).startCapture k origin
  else (s1.startCapture k origin).raiseSample k

/-- R107: a recovery enters SERVING. -/
def State.enterServing (s : State) (k : CageId) : State :=
  let q := (s.cage k).seq
  let forced := decide (q.recovery = some .forced)
  let s1 := s.onCage k fun c =>
    let d := (c.endRecovery.latch .recovered).count .recoveries
    { d with
      seq := { d.seq with concealed := false, concealTimer := none }
      standing := if forced then .matched else if q.identified then c.standing else .unmatched
      journal :=
        if forced || q.outcome.revives then { d.journal with frozen := false } else d.journal }
  if forced then ((s1.freeLines k).beginServing k q.verified).sampleAndCapture k .forced
  else (s1.beginServing k q.verified).raiseSample k

/-- R107: the serving check, once no posted write is in progress. It tests for PENDING records only: a FIRST recovery
enters SERVING with a FAILED record (assumption 27). -/
def State.serve (s : State) (k : CageId) : State :=
  let s1 := s.onSeq k fun q => { q with serveCheck := false }
  if (s.cage k).journal.anyPending then s1.enterReplaying k true else s1.enterServing k

end Sys2Proof.Machine
end

