-- ==== Sys2Proof/Machine/PageWrite.lean ====
section
/-! DEFINITION. Writing the settings on the control pages (R35, R36, R163, R175, R176, R184 to R187): every writable
byte but the command byte. -/

namespace Sys2Proof.Machine

/-! ## Coded and clamped values (R185) -/

/-- R185: a coded field written above its highest code is stored as its highest code. -/
def areaOf (v : Byte) : Area := if v = 0#8 then .lower else .upper

def writeClassOf (v : Byte) : WriteClass :=
  if v = 0#8 then .retain else if v = 1#8 then .sequence else if v = 2#8 then .omitted else .reset

def readClassOf (v : Byte) : ReadClass := if v = 0#8 then .static else .live

def roleOf (v : Byte) : Role := if v = 0#8 then .model else .unit

def kinOf (v : Byte) : KinPolicy := if v = 0#8 then .hold else .replay

/-- R185: an on/off field: 0 is off. -/
def onOf (v : Byte) : Bool := decide (v ≠ 0#8)

/-- R36, R185: an offset stored clamped into its area. -/
def clampOffset (a : Area) (v : Byte) : Byte :=
  match a with
  | .lower => if isUpper v then 127#8 else v
  | .upper => if isUpper v then v else 128#8

/-- R185: an area written; the stored offset is clamped into it at once. -/
def Location.setArea (l : Location) (v : Byte) : Location :=
  { l with area := areaOf v, offset := clampOffset (areaOf v) l.offset }

/-- One of a location's four bytes: area, bank, page, offset. -/
def Location.write (l : Location) (i : Nat) (v : Byte) : Location :=
  match i with
  | 0 => l.setArea v
  | 1 => { l with bank := v }
  | 2 => { l with page := v }
  | 3 => { l with offset := clampOffset l.area v }
  | _ => l

/-- One of the five bytes of a location that may be absent. -/
def OptLocation.write (l : OptLocation) (i : Nat) (v : Byte) : OptLocation :=
  match i with
  | 0 => { l with present := onOf v }
  | n + 1 => { l with loc := l.loc.write n v }

/-! ## Profile fields (R34 to R41, R187) -/

/-- R35: a write of the page-select offset; the bank-select offset becomes none when it would be equal. -/
def Profile.setPageSelect (p : Profile) (v : Byte) : Profile :=
  let x := clampOffset .lower v
  { p with pageSelect := x, bankSelect := if p.bankSelect = some x then none else p.bankSelect }

/-- R35: a write of the bank-select offset: 0xFF is none, and so is the page-select offset's value. -/
def Profile.setBankSelect (p : Profile) (v : Byte) : Profile :=
  let x := clampOffset .lower v
  { p with bankSelect := if v = 255#8 ∨ x = p.pageSelect then none else some x }

/-- R163: the pair of the lit threshold takes effect. -/
def LaneSettings.setLit (l : LaneSettings) (v : Byte) : LaneSettings :=
  let x := max (wordOf l.litHeld v) (l.dark + 1)
  { l with lit := x, litHeld := hiByte x }

/-- R163: the pair of the dark threshold takes effect. -/
def LaneSettings.setDark (l : LaneSettings) (v : Byte) : LaneSettings :=
  let x := min (wordOf l.darkHeld v) (l.lit - 1)
  { l with dark := x, darkHeld := hiByte x }

/-- Kind 1: a header byte, but for the select offsets and the threshold pairs, which are commands of their own. -/
def Profile.writeHeader (p : Profile) (o : Nat) (v : Byte) : Profile :=
  match o with
  | 130 => { p with writeDefault := writeClassOf v }
  | 131 => { p with readDefault := readClassOf v }
  | 132 => { p with kin := kinOf v }
  | 133 => { p with bootDelay := clampTo 1 255 v.toNat }
  | 134 => { p with ready := { p.ready with present := onOf v } }
  | 135 => { p with ready := { p.ready with loc := p.ready.loc.write 0 v } }
  | 136 => { p with ready := { p.ready with loc := p.ready.loc.write 1 v } }
  | 137 => { p with ready := { p.ready with loc := p.ready.loc.write 2 v } }
  | 138 => { p with ready := { p.ready with loc := p.ready.loc.write 3 v } }
  | 139 => { p with ready := { p.ready with mask := v } }
  | 140 => { p with ready := { p.ready with value := v } }
  | 141 => { p with power := p.power.write 0 v }
  | 142 => { p with power := p.power.write 1 v }
  | 143 => { p with power := p.power.write 2 v }
  | 144 => { p with power := p.power.write 3 v }
  | 145 => { p with power := p.power.write 4 v }
  | 146 => { p with probe := p.probe.write 0 v }
  | 147 => { p with probe := p.probe.write 1 v }
  | 148 => { p with probe := p.probe.write 2 v }
  | 149 => { p with probe := p.probe.write 3 v }
  | 150 => { p with probe := p.probe.write 4 v }
  | 151 => { p with lane := { p.lane with count := clampTo 0 8 v.toNat } }
  | 152 => { p with lane := { p.lane with lane0 := p.lane.lane0.write 0 v } }
  | 153 => { p with lane := { p.lane with lane0 := p.lane.lane0.write 1 v } }
  | 154 => { p with lane := { p.lane with lane0 := p.lane.lane0.write 2 v } }
  | 155 => { p with lane := { p.lane with lane0 := p.lane.lane0.write 3 v } }
  | 156 => { p with lane := { p.lane with lane0 := p.lane.lane0.write 4 v } }
  | 157 => { p with lane := { p.lane with required := v } }
  | 158 => { p with lane := { p.lane with litHeld := v } }
  | 160 => { p with lane := { p.lane with darkHeld := v } }
  | 162 => { p with lane := { p.lane with litCount := clampTo 1 15 v.toNat } }
  | 163 => { p with lane := { p.lane with darkCount := clampTo 1 15 v.toNat } }
  | _ => p

/-- Kind 2: a byte of a region entry (R36). -/
def RegionEntry.write (e : RegionEntry) (o : Nat) (v : Byte) : RegionEntry :=
  match o with
  | 128 => { e with used := onOf v }
  | 129 =>
    { e with
      area := areaOf v, first := clampOffset (areaOf v) e.first, last := clampOffset (areaOf v) e.last }
  | 130 => { e with bankAny := v.getLsbD 0, pageAny := v.getLsbD 1 }
  | 131 => { e with bank := v }
  | 132 => { e with page := v }
  | 133 => { e with first := clampOffset e.area v }
  | 134 => { e with last := clampOffset e.area v }
  | 135 => { e with writeClass := writeClassOf v }
  | 136 => { e with readClass := readClassOf v }
  | 137 => { e with readBack := onOf v }
  | 138 => { e with settle := v.toNat }
  | _ => e

/-- Kinds 3 and 4: a byte of a span (R38); `limit` is its greatest length. -/
def Span.write (sp : Span) (identity : Bool) (limit o : Nat) (v : Byte) : Span :=
  match o with
  | 128 => { sp with used := onOf v }
  | 129 => { sp with loc := sp.loc.write 0 v }
  | 130 => { sp with loc := sp.loc.write 1 v }
  | 131 => { sp with loc := sp.loc.write 2 v }
  | 132 => { sp with loc := sp.loc.write 3 v }
  | 133 => { sp with length := clampTo 1 limit v.toNat }
  | 134 => if identity then { sp with role := roleOf v } else sp
  | _ => sp

/-! ## Select offsets (R35) -/

/-- The cages bound to profile `p`. -/
def State.boundTo (s : State) (p : ProfileId) : List CageId :=
  allCages.filter fun k => decide ((s.cage k).binding = p)

/-- R35, R43: the select offsets of cage `k` have changed: its belief becomes UNKNOWN, and its shadow bank 0 when the
profile it is bound to has no bank-select offset. -/
def State.reselect (s : State) (k : CageId) : State :=
  let s1 := s.changeSelects k
  if (s.profileOf k).bankSelect.isNone then s1.onCtx k fun x => { x with shadowBank := 0#8 } else s1

/-- R35: a write of a select offset of profile `p`, with its effects on every cage bound to it. -/
def State.writeSelect (s : State) (p : ProfileId) (bank : Bool) (v : Byte) : State :=
  let s1 := s.onProfile p fun x => if bank then x.setBankSelect v else x.setPageSelect v
  (s.boundTo p).foldl (fun t k => t.reselect k) s1

/-- R163: a threshold pair of profile `p` takes effect. -/
def State.writeThreshold (s : State) (p : ProfileId) (lit : Bool) (v : Byte) : State :=
  s.onProfile p fun x =>
    { x with lane := if lit then x.lane.setLit v else x.lane.setDark v }

/-- A header byte of profile `p` (R187, kind 1). -/
def State.writeHeader (s : State) (p : ProfileId) (o : Nat) (v : Byte) : State :=
  if o = 128 then s.writeSelect p false v
  else if o = 129 then s.writeSelect p true v
  else if o = 159 then s.writeThreshold p true v
  else if o = 161 then s.writeThreshold p false v
  else s.onProfile p fun x => x.writeHeader o v

/-- R187: a write to the WINDOW page of cage `k`, at the effective index. The journal, baseline and snapshot objects
are read-only. -/
def State.windowWrite (s : State) (k : CageId) (o v : Byte) : State :=
  let i := (s.cage k).effectiveIndex
  match (s.cage k).control.windowKind with
  | 1 => s.writeHeader (profileIndex i 1) o.toNat v
  | 2 =>
    s.onProfile (profileIndex i 16) fun p =>
      { p with
        entries :=
          p.entries.set (⟨i % 16, by omega⟩ : Fin 16) ((p.entryAt i).write o.toNat v) }
  | 3 =>
    s.onProfile (profileIndex i 4) fun p =>
      { p with
        idSpans :=
          p.idSpans.set (⟨i % 4, by omega⟩ : Fin 4) ((p.spanAt i).write true 32 o.toNat v) }
  | 4 =>
    s.onProfile (profileIndex i 4) fun p =>
      { p with
        prefetch :=
          p.prefetch.set (⟨i % 4, by omega⟩ : Fin 4)
            ((p.prefetchAt i).write false 64 o.toNat v) }
  | _ => s

/-! ## The CTRL page's settings -/

/-- R184, R185: a device setting of one byte. -/
def DeviceSettings.write (d : DeviceSettings) (o : Nat) (v : Byte) : DeviceSettings :=
  let x := v.toNat
  match o with
  | 136 => { d with budgetHeld := v }
  | 138 => { d with idleCharge := clampTo 0 63 x }
  | 139 => { d with margin := clampTo 0 50 x }
  | 140 => { d with bypassLimit := clampTo 0 7 x }
  | 146 => { d with retryInterval := clampTo 1 255 x }
  | 147 => { d with retryLimit := clampTo 1 31 x }
  | 148 => { d with hostWait := clampTo 1 100 x }
  | 149 => { d with moduleWait := clampTo 1 255 x }
  | 150 => { d with removalQualify := clampTo 1 255 x }
  | 151 => { d with settleBase := clampTo 1 255 x }
  | 152 => { d with bounceLimit := clampTo 0 15 x }
  | 153 => { d with resetPulse := clampTo 1 255 x }
  | 154 => { d with bootTimeout := clampTo 1 255 x }
  | 155 => { d with rampTimeout := clampTo 1 255 x }
  | 156 => { d with revealMinimum := clampTo 1 255 x }
  | 157 => { d with readyPoll := clampTo 1 255 x }
  | 158 => { d with readBackRetry := clampTo 0 7 x }
  | 159 => { d with probePeriod := clampTo 0 255 x }
  | 160 => { d with lightPoll := clampTo 1 255 x }
  | 161 => { d with monitorPeriod := clampTo 1 255 x }
  | 162 => { d with lightTimeout := clampTo 1 255 x }
  | _ => d

/-- A byte of cage `k`'s own areas: cage settings and arguments. -/
def Cage.writeOwn (c : Cage) (o : Nat) (v : Byte) : Cage :=
  match o with
  | 192 => { c with settings := { c.settings with ceiling := clampTo 0 255 v.toNat } }
  | 193 => { c with settings := { c.settings with priority := clampTo 0 3 v.toNat } }
  | 195 => { c with settings := { c.settings with concealLimit := clampTo 0 255 v.toNat } }
  | 232 => { c with control := { c.control with arg0 := v } }
  | 233 => { c with control := { c.control with arg1 := v } }
  | _ => c

/-- R175: ones clear device flags. -/
def State.clearDeviceFlags (s : State) (v : Byte) : State :=
  { s with flags := s.flags &&& ~~~(v.setWidth 3) }

/-- R176: the device enables. -/
def State.setDeviceEnables (s : State) (v : Byte) : State := { s with enables := v.setWidth 3 }

/-- R175: a write of a W1C flag byte. -/
def State.clearFlags (s : State) (k : CageId) (which : FlagByte) (v : Byte) : State :=
  match which with
  | .device => s.clearDeviceFlags v
  | .cageLow => s.onCage k fun c => { c with events := c.events.clearLow v }
  | .cageHigh => s.onCage k fun c => { c with events := c.events.clearHigh v }

/-- R176: a write of an enable byte. -/
def State.writeEnables (s : State) (k : CageId) (which : FlagByte) (v : Byte) : State :=
  match which with
  | .device => s.setDeviceEnables v
  | .cageLow => s.onCage k fun c => { c with events := c.events.enableLow v }
  | .cageHigh => s.onCage k fun c => { c with events := c.events.enableHigh v }

/-- R156, R184: the budget pair takes effect: OVERCOMMIT is judged and a scan is made. With the bypass limit raised since the last scan,
the scan of an unchanged budget may grant a waiter blocked before: R144 and R150 are followed over R156's words that it grants
nothing new (assumption 36). -/
def State.writeBudget (s : State) (v : Byte) : State :=
  let x := clampTo 0 4095 (wordOf s.settings.budgetHeld v)
  (State.judgeOver { s with settings := { s.settings with budget := x, budgetHeld := hiByte x } }
    s).scan

/-- R60: the quota. -/
def State.writeQuota (s : State) (k : CageId) (v : Byte) : State :=
  s.onJournal k fun j => { j with quota := clampTo 8 255 v.toNat }

/-- R186: the window selector's kind or index. -/
def State.writeSelector (s : State) (k : CageId) (index : Bool) (v : Byte) : State :=
  s.onCage k fun c =>
    { c with
      control :=
        if index then { c.control with windowIndex := v }
        else { c.control with windowKind := clampTo 0 6 v.toNat } }

/-- A write to the CTRL page of cage `k` at any offset but the command byte's. Offsets that the layout leaves unassigned
or marks read-only take no effect (R183). -/
def State.ctrlSetting (s : State) (k : CageId) (o : Nat) (v : Byte) : State :=
  if o = 131 then s.clearFlags k .device v
  else if o = 132 then s.writeEnables k .device v
  else if o = 137 then s.writeBudget v
  else if o = 183 then s.clearFlags k .cageLow v
  else if o = 184 then s.clearFlags k .cageHigh v
  else if o = 185 then s.writeEnables k .cageLow v
  else if o = 186 then s.writeEnables k .cageHigh v
  else if o = 196 then s.writeQuota k v
  else if o = 236 then s.writeSelector k false v
  else if o = 237 then s.writeSelector k true v
  else if o < 176 then { s with settings := s.settings.write o v }
  else s.onCage k fun c => c.writeOwn o v

end Sys2Proof.Machine
end

