-- ==== Sys2Proof/Machine/Commands.lean ====
section
/-! DEFINITION. The host commands' effects (R43, R91, R92, R116 to R122, R181, R188, R189), each with its result, and
the write of a control-page byte (R183, R188). -/

namespace Sys2Proof.Machine

/-! ## Results (R188) -/

inductive CommandResult
  | done
  | refusedState
  | refusedOwner
  | refusedArg
deriving DecidableEq, Repr

/-- The result codes of 12.3. -/
def CommandResult.code : CommandResult → Byte
  | .done => 1#8
  | .refusedState => 2#8
  | .refusedOwner => 3#8
  | .refusedArg => 4#8

/-! ## Commands of the Cage Sequencer (R116 to R122) -/

/-- R117: RESUME. -/
def State.resume (s : State) (k : CageId) : State × CommandResult :=
  if (s.cage k).seq.state = .held then
    (((s.departService k .resume).leaveService k).askPulse k, .done)
  else (s, .refusedState)

/-- R118: ADOPT's effect on the journal and the cache. -/
def State.adoptModule (s : State) (k : CageId) : State :=
  ((s.onJournal k (·.emptied)).adoptLines k).setStanding k .matched

/-- R118: ADOPT. -/
def State.adopt (s : State) (k : CageId) : State × CommandResult :=
  match (s.cage k).seq.state with
  | .serving => ((s.adoptModule k).startCapture k .adopt, .done)
  | .held => (((s.adoptModule k).beginServing k false).sampleAndCapture k .adopt, .done)
  | _ => (s, .refusedState)

/-- R119: FORCE_REPLAY. The cage leaves HELD unless it is held again over its ceiling. -/
def State.forceReplay (s : State) (k : CageId) : State × CommandResult :=
  if (s.cage k).seq.state = .held then
    let s1 := ((s.endOps k).startRecovery k .forced).onSeq k fun q => { q with verified := false }
    let s2 := s1.goOnToPower k true
    (if (s2.cage k).seq.state.inService then s2 else s2.leaveService k, .done)
  else (s, .refusedState)

/-- R120: RELEASE. -/
def State.release (s : State) (k : CageId) : State × CommandResult :=
  if (s.cage k).seq.state = .held then ((s.beginServing k false).raiseSample k, .done)
  else (s, .refusedState)

/-- R121: MODULE_RESET. -/
def State.moduleReset (s : State) (k : CageId) : State × CommandResult :=
  if (s.cage k).seq.state.inService then
    if (s.cage k).lines.mrstOwner = .host then (s, .refusedOwner) else (s.askPulse k, .done)
  else (s, .refusedState)

/-- R122: the engine side of CAGE_CLEAR: bursts aborted, requests withdrawn; a periodic probe and a sample with a burst
or a request end, a glitch probe waits for the capture to come (R141, R142, R164). -/
def State.clearBursts (s : State) (k : CageId) : State :=
  let o := (s.cage k).ops
  let glitch := o.glitchWait.isSome || (o.probe.map (·.glitch)) == some true
  let s1 := s.onOps k fun _ =>
    { Operations.reset with glitchWait := if glitch then some .capture else none }
  let s2 := if (o.probe.map (·.glitch)) = some false then s1.startProbeTimer k else s1
  let s3 := match (s.cage k).light.sample with
    | some { retry := none, .. } => s2.endSample k
    | _ => s2
  ((s3.withdraw k .sequencer).onCage k fun c =>
      match c.light.sample with
      | some _ => c
      | none => c.withdrawAgent .monitor).abortBurst k

/-- R122: CAGE_CLEAR. -/
def State.cageClear (s : State) (k : CageId) : State × CommandResult :=
  let s1 := (((s.onJournal k (·.emptied)).freeLines k).clearBursts k).reveal k
  match (s.cage k).seq.state with
  | .vacant => ((s1.onSeq k fun q => { q with baseline := none }).setStanding k .unmatched, .done)
  | .serving | .held => (s1.startCapture k .clear, .done)
  | _ => (s, .refusedState)

/-! ## BIND_PROFILE (R43) -/

def State.bindProfile (s : State) (k : CageId) (v : Byte) : State × CommandResult :=
  if h : v.toNat < 4 then
    if (s.cage k).seq.state = .vacant ∨ (s.cage k).seq.state = .held then
      let p : ProfileId := ⟨v.toNat, h⟩
      if (s.cage k).binding = p then (s, .done)
      else ((s.onCage k fun c => { c with binding := p }).reselect k, .done)
    else (s, .refusedState)
  else (s, .refusedArg)

/-! ## OWN and LINE (R91, R92) -/

inductive SideLine
  | mrst
  | mlow
deriving DecidableEq, Repr

def lineOf (v : Byte) : Option SideLine :=
  if v = 0#8 then some .mrst else if v = 1#8 then some .mlow else none

def ownerOf (v : Byte) : Option LineOwner :=
  if v = 0#8 then some .engine else if v = 1#8 then some .host else none

def levelOf (v : Byte) : Option Bool :=
  if v = 0#8 then some false else if v = 1#8 then some true else none

/-- The owner, latch and engine level of a module-side line. -/
def Cage.lineOwner (c : Cage) : SideLine → LineOwner
  | .mrst => c.lines.mrstOwner
  | .mlow => c.lines.mlowOwner

def Cage.lineLatch (c : Cage) : SideLine → Bool
  | .mrst => c.lines.mrst
  | .mlow => c.lines.mlow

def Cage.lineEngine (c : Cage) : SideLine → Bool
  | .mrst => c.mrstEngine
  | .mlow => c.mlowEngine

def Cage.setOwner (c : Cage) (l : SideLine) (o : LineOwner) : Cage :=
  match l with
  | .mrst => { c with lines := { c.lines with mrstOwner := o } }
  | .mlow => { c with lines := { c.lines with mlowOwner := o } }

def Cage.setLatch (c : Cage) (l : SideLine) (v : Bool) : Cage :=
  match l with
  | .mrst => { c with lines := { c.lines with mrst := v } }
  | .mlow => { c with lines := { c.lines with mlow := v } }

/-- R91, R154: an ownership change; a low-power line returned in HELD without a grant takes the idle charge. -/
def State.changeOwner (s : State) (k : CageId) (l : SideLine) (o : LineOwner) : State :=
  let s1 := s.onCage k (·.setOwner l o)
  if l = .mlow ∧ o = .engine ∧ (s.cage k).seq.state = .held ∧ (s.cage k).ledger.grant = false then
    s1.chargeAtOnce k s.settings.idleCharge
  else s1

/-- R91: OWN. -/
def State.ownLine (s : State) (k : CageId) (lineArg ownerArg : Byte) : State × CommandResult :=
  match lineOf lineArg, ownerOf ownerArg with
  | some l, some o =>
    let c := s.cage k
    if c.seq.state ≠ .vacant ∧ c.seq.state ≠ .held then (s, .refusedState)
    else if c.lineOwner l = o then (s, .done)
    else if o = .engine ∧ c.lineLatch l ≠ c.lineEngine l then (s, .refusedState)
    else (s.changeOwner k l o, .done)
  | _, _ => (s, .refusedArg)

/-- R92, R93: the latch of a HOST-owned line moves; a move of MRST is reported. -/
def State.moveLine (s : State) (k : CageId) (l : SideLine) (v : Bool) : State :=
  let s1 := s.onCage k (·.setLatch l v)
  match l with
  | .mlow => s1
  | .mrst => if v then s1.mrstAsserted k else s1.mrstReleased k

/-- R92: LINE. -/
def State.setLine (s : State) (k : CageId) (lineArg levelArg : Byte) : State × CommandResult :=
  match lineOf lineArg, levelOf levelArg with
  | some l, some v =>
    let c := s.cage k
    if c.lineOwner l = .engine then (s, .refusedOwner)
    else if c.lineLatch l = v then (s, .done)
    else (s.moveLine k l v, .done)
  | _, _ => (s, .refusedArg)

/-! ## SNAPSHOT and SET_MODE (R181, R189) -/

/-- R181: SNAPSHOT with CAGE. -/
def State.snapshotCage (s : State) (k : CageId) : State :=
  s.onCage k fun c => { c with events := c.events.takeSnapshot }

/-- R181: SNAPSHOT. -/
def State.takeSnapshot (s : State) (k : CageId) (v : Byte) : State × CommandResult :=
  if v = 0#8 then (s.snapshotCage k, .done)
  else if v = 1#8 then (s.takeDeviceSnapshot, .done)
  else (s, .refusedArg)

/-- R114, R189: every concealed recovery is revealed. -/
def State.revealAll (s : State) : State := allCages.foldl (fun t k => t.reveal k) s

/-- R189: SET_MODE. -/
def State.changeMode (s : State) (v : Byte) : State × CommandResult :=
  if v = 0#8 then ({ s with mode := .recover }, .done)
  else if v = 1#8 then
    if s.mode = .learn then (s, .done) else (State.revealAll { s with mode := .learn }, .done)
  else (s, .refusedArg)

/-! ## Giving a command (R188) -/

/-- R188: the command byte is written, the command is taken, and the result byte takes its result. -/
def State.give (k : CageId) (code : Byte) (r : State × CommandResult) : State :=
  r.1.onCage k fun c =>
    { c with control := { c.control with command := code, result := r.2.code } }

/-- The argument bytes of cage `k`'s command area. -/
def State.arg0 (s : State) (k : CageId) : Byte := (s.cage k).control.arg0

def State.arg1 (s : State) (k : CageId) : Byte := (s.cage k).control.arg1

/-- R188: the command of a code, with the arguments as they stand. -/
def State.runCommand (s : State) (k : CageId) (code : Byte) : State × CommandResult :=
  match code.toNat with
  | 1 => s.resume k
  | 2 => s.adopt k
  | 3 => s.forceReplay k
  | 4 => s.release k
  | 5 => s.moduleReset k
  | 6 => s.cageClear k
  | 7 => s.bindProfile k (s.arg0 k)
  | 8 => s.ownLine k (s.arg0 k) (s.arg1 k)
  | 9 => s.setLine k (s.arg0 k) (s.arg1 k)
  | 10 => s.takeSnapshot k (s.arg0 k)
  | 11 => s.changeMode (s.arg0 k)
  | _ => (s, .refusedArg)

/-- The arguments written before a command byte (R188). -/
def State.setArg0 (s : State) (k : CageId) (v : Byte) : State :=
  s.onCage k fun c => { c with control := { c.control with arg0 := v } }

def State.setArg1 (s : State) (k : CageId) (v : Byte) : State :=
  s.onCage k fun c => { c with control := { c.control with arg1 := v } }

/-! ## A written control-page byte (R183, R184) -/

/-- A write to the CTRL page of cage `k`. -/
def State.ctrlWrite (s : State) (k : CageId) (o v : Byte) : State :=
  if o = 234#8 then State.give k v (s.runCommand k v) else s.ctrlSetting k o.toNat v

/-- R183: a diverted byte written to a control page. -/
def State.pageWrite (s : State) (k : CageId) (page : ControlPage) (o v : Byte) : State :=
  match page with
  | .ctrl => s.ctrlWrite k o v
  | .window => s.windowWrite k o v

end Sys2Proof.Machine
end

