-- ==== Sys2Proof/Machine/Upstream.lean ====
section
/-! DEFINITION. The host's bytes on an upstream port (R1 to R4, R6, R8 to R19): START, address, offset and data bytes,
and the ends of transfers and transactions. -/

namespace Sys2Proof.Machine

/-! ## The end of a transfer (R6, R11, R12, R16, R49) -/

/-- R11, R49: the forwarded part of a write, marked as having reached the module, and its posted part. -/
def State.handOver (s : State) (k : CageId) (x : Transfer) : State :=
  let s1 :=
    s.takeWrite { cage := k, reached := true, bank := x.bank, page := x.page, bytes := x.relayed }
  s1.takeWrite { cage := k, reached := false, bank := x.bank, page := x.page, bytes := x.posted }

/-- R12, R69: the module bytes of a forwarded read fill the cache while the cage is SERVING or HELD, unless their
module was removed since. -/
def State.handRead (s : State) (k : CageId) (x : Transfer) : State :=
  if (s.cage k).seq.state.inService && !x.moduleGone then s.fillCache k x.readBytes else s

/-- A transfer ends at STOP or a repeated START: the transfer downstream ends (R4, R7), the pending selects take effect
(R6), the bytes are handed over (R11, R12, R16), and a RESET-class write is reported (R11). -/
def State.endTransfer (s : State) (g : GroupId) : State :=
  match s.current g with
  | none => s
  | some (k, x) =>
    let s1 := if x.path.isRelayed && decide (x.relay = .live) then s.concludeDown g k else s
    let s2 := s1.acceptPending k
    let s3 := if x.read then s2.handRead k x else s2.handOver k x
    let s4 := s3.setTransaction g (some { cage := some k, transfer := none })
    if x.resetSeen then s4.resetWrite k else s4

/-! ## The stretched host (R4) -/

/-- The part stretches the host's byte, or holds it at its address byte: nothing of the host's can come. -/
def State.stretched (s : State) (g : GroupId) : Bool :=
  match s.current g with
  | some (_, x) => decide (x.hold ≠ .none)
  | none => false

/-! ## START, repeated START and STOP (R3) -/

/-- The slots whose select is asserted. -/
def selectedSlots (selects : BitVec 4) : List SlotId :=
  (List.finRange 4).filter fun n => selects.getLsbD n.val

/-- R3: a START samples the group's selects. -/
def State.beginTransaction (s : State) (g : GroupId) (selects : BitVec 4) : State :=
  match selectedSlots selects with
  | [n] => (s.setTransaction g (some { cage := some (cageAt g n), transfer := none })).answer g .released
  | [] => (s.setTransaction g (some { cage := none, transfer := none })).answer g .released
  | _ =>
    (((s.setTransaction g (some { cage := none, transfer := none })).answer g .released).latchDevice
      .selectConflict).countDevice .selectConflicts 1

/-- R3, R24: the host's STOP ends the transfer and the transaction, and the bus is given back. -/
def State.endTransaction (s : State) (g : GroupId) : State :=
  match (s.group g).up.transaction with
  | none => s
  | some _ => (((s.endTransfer g).setTransaction g none).answer g .released).returnBus g

/-- A repeated START ends the transfer; its address byte begins a new one (R3). -/
def State.nextTransfer (s : State) (g : GroupId) : State :=
  match (s.group g).up.transaction with
  | none => s
  | some _ => (s.endTransfer g).answer g .released

/-! ## The address byte (R3, R9) -/

/-- A transfer from its address byte: its address and direction, and the bank and page in effect, bank 0 without a
bank-select offset (R2, R4, R45). -/
def State.newTransfer (s : State) (k : CageId) (path : Path) (address : BitVec 7) (read : Bool) : Transfer :=
  { address := address, read := read, path := path, relay := .live, hold := .none, offsetSeen := false, ended := false,
    refusing := false, bank := (s.profileOf k).keyBank (s.cage k).ctx.shadowBank,
    page := (s.cage k).ctx.shadowPage, bankSet := none, pageSet := none, relayed := [], posted := [],
    gap := false, readBytes := [], moduleGone := false, resetSeen := false, capture := none, cut := none }

/-- R3, R9, R16 to R19, R23: a completed address byte. -/
def State.takeAddress (s : State) (g : GroupId) (address : BitVec 7) (read : Bool) : State :=
  match (s.group g).up.transaction with
  | some { cage := some k, transfer := none } =>
    let path := s.pathNow k (decide (address = s.straps.moduleAddress)) read
    let s1 := s.setTransaction g (some { cage := some k, transfer := some (s.newTransfer k path address read) })
    if path.isRelayed then (s1.answer g .released).requestBus g k
    else s1.answer g path.addressAnswer
  | some { cage := none, .. } => s.answer g .nack
  | _ => s

/-! ## The offset byte (R1, R11, R16, R18) -/

/-- R1: the host pointer takes a value, in a module-address transfer. -/
def State.movePointer (s : State) (k : CageId) (x : Transfer) (o : Byte) : State :=
  if x.path.isModule then s.onCtx k fun c => { c with hostPtr := o } else s

/-- A byte is relayed: it goes on the downstream bus and the host is stretched for its answer (R4). -/
def State.relay (s : State) (g : GroupId) (h : Hold) : State :=
  ((s.setHold g h).answer g .released).arm g

/-- R1: the offset byte of a write transfer. -/
def State.takeOffset (s : State) (g : GroupId) (o : Byte) : State :=
  match s.current g with
  | some (k, x) =>
    if x.read || x.offsetSeen then s
    else
      let s1 := (s.movePointer k x o).onTransfer g fun y => { y with offsetSeen := true }
      match x.path with
      | .forwarded | .foreign => if x.relay = .live then s1.relay g (.offset o) else s1.answer g .nack
      | .concealed | .uncovered | .control => s1.answer g .ack
      | .refused | .foreignRefused => s1.answer g .nack
  | none => s

/-! ## Data bytes written (R1, R2, R8, R11, R16, R18) -/

/-- R2: an accepted select byte becomes the pending bank or page. -/
def State.pend (s : State) (k : CageId) (o v : Byte) : State :=
  let p := s.profileOf k
  s.onCtx k fun c =>
    if o = p.pageSelect then { c with pendingPage := some v }
    else if p.bankSelect = some o then { c with pendingBank := some v }
    else c

/-- R49, R51: a byte of a posted write is not held, and the next byte held follows a gap. -/
def State.passOver (s : State) (g : GroupId) : State := s.onTransfer g fun y => { y with gap := true }

/-- R16: a data byte of a posted write that is no select byte and lies on no control page. -/
def State.post (s : State) (g : GroupId) (k : CageId) (x : Transfer) (o v : Byte) : State :=
  let r := (s.profileOf k).classify x.bank x.page o
  if isJournaled r && !(s.cage k).journal.frozen then
    (s.onTransfer g fun y =>
      { y with
        posted := y.posted ++ [{ offset := o, value := v, region := r, acked := true, gap := y.gap }]
        gap := false }).count k
      .postedWrites
  else (s.passOver g).count k .discardedWrites

/-- R8: a control-page select: accepted by the part on every path, it becomes the pending page, and the rest of the
transfer goes nowhere but to the control pages. -/
def State.controlSelect (s : State) (g : GroupId) (k : CageId) (x : Transfer) (v : Byte) : State :=
  ((s.afterSelect g k x).onCtx k fun c => { c with pendingPage := some v }).answer g .ack

/-- R11, R13, R16, R18: a data byte at offset `o` that R8 does not divert, by the transfer's path. -/
def State.takeData (s : State) (g : GroupId) (k : CageId) (x : Transfer) (o v : Byte) : State :=
  let p := s.profileOf k
  match x.path with
  | .forwarded => s.relay g (.data o v)
  | .concealed =>
    if p.isSelect o then ((s.pend k o v).passOver g).answer g .ack else (s.post g k x o v).answer g .ack
  | .uncovered =>
    if p.isSelect o && !x.refusing then (s.pend k o v).answer g .ack
    else (s.onTransfer g fun y => { y with refusing := true }).answer g .nack
  | .foreign | .control | .refused | .foreignRefused => s.answer g .nack

/-- R8: a data byte of a module-address write, diverted where R8 says. -/
def State.writeModule (s : State) (g : GroupId) (k : CageId) (x : Transfer) (o v : Byte) : State :=
  match s.straps.controlByte x.page o with
  | some page => ((s.afterSelect g k x).answer g .ack).pageWrite k page o v
  | none =>
    if x.relay = .afterSelect then s.answer g .nack
    else if o = (s.profileOf k).pageSelect ∧ (s.straps.controlPage v).isSome = true then
      s.controlSelect g k x v
    else s.takeData g k x o v

/-- R1: a data byte of a write transfer; the pointer advances over it whatever answers it. -/
def State.takeWriteByte (s : State) (g : GroupId) (v : Byte) : State :=
  match s.current g with
  | some (k, x) =>
    if x.read || !x.offsetSeen then s
    else
      let o := (s.cage k).ctx.hostPtr
      let s1 := s.movePointer k x (ptrNext o)
      match x.path, x.relay with
      | .foreign, .live => s1.relay g (.data o v)
      | .foreign, _ | .foreignRefused, _ | .refused, _ => s1.answer g .nack
      | _, .nacked | _, .stalled => s1.answer g .nack
      | _, _ => s1.writeModule g k x o v
  | none => s

/-! ## Data bytes read (R1, R8, R12, R17, R19) -/

/-- R17: the source of a concealed read byte that is on no control page; none when the default answers it. -/
def State.concealedByte (s : State) (k : CageId) (x : Transfer) (o : Byte) : Option Byte :=
  let p := s.profileOf k
  let c := s.cage k
  if o = p.pageSelect then some c.ctx.shadowPage
  else if p.bankSelect = some o then some c.ctx.shadowBank
  else
    let key := keyAt x.bank x.page o
    (c.journal.retained key (posOf o)).or (s.cachedByte k key (posOf o))

/-- The part answers a read byte itself; the host's acknowledge decides only whether it wants another. -/
def State.supply (s : State) (g : GroupId) (v : Byte) (hostAck : Bool) : State :=
  (s.onTransfer g fun y => { y with ended := !hostAck }).answer g (.data v)

/-- R17: a byte of a concealed read, 0xFF counted when nothing holds it. -/
def State.supplyConcealed (s : State) (g : GroupId) (k : CageId) (x : Transfer) (o : Byte)
    (hostAck : Bool) : State :=
  match s.concealedByte k x o with
  | some v => s.supply g v hostAck
  | none => (s.count k .unservedBytes).supply g 255#8 hostAck

/-- R8, R184: a byte of a read from a control page. -/
def State.supplyPage (s : State) (g : GroupId) (k : CageId) (x : Transfer) (page : ControlPage)
    (o : Byte) (hostAck : Bool) : State :=
  let r := s.readPage k page o x.capture
  ((s.afterSelect g k x).onTransfer g fun y => { y with capture := r.2 }).supply g r.1 hostAck

/-- R8, R12, R17, R19: a data byte of a module-address read at offset `o`, on a path that answers reads. -/
def State.readModule (s : State) (g : GroupId) (k : CageId) (x : Transfer) (o : Byte) (hostAck : Bool) :
    State :=
  match s.straps.controlByte x.page o with
  | some page => s.supplyPage g k x page o hostAck
  | none =>
    match x.path with
    | .concealed => s.supplyConcealed g k x o hostAck
    | .forwarded =>
      if x.relay = .live then s.relay g (.read o hostAck) else s.supply g 255#8 hostAck
    | _ => s.answer g .released

/-- R1: a data byte of a read transfer. -/
def State.takeReadByte (s : State) (g : GroupId) (hostAck : Bool) : State :=
  match s.current g with
  | some (k, x) =>
    if !x.read || x.ended then s
    else
      let o := (s.cage k).ctx.hostPtr
      match x.path, x.relay with
      | .refused, _ | .foreignRefused, _ | .uncovered, _ => s.answer g .released
      | _, .nacked => s.answer g .released
      | .foreign, .live => s.relay g (.read o hostAck)
      | .foreign, _ => s.supply g 255#8 hostAck
      | _, .stalled => (s.movePointer k x (ptrNext o)).supply g 255#8 hostAck
      | _, _ => (s.movePointer k x (ptrNext o)).readModule g k x o hostAck
  | none => s

end Sys2Proof.Machine
end

