-- ==== Sys2Proof/Machine/Downstream.lean ====
section
/-! DEFINITION. The downstream ports' events (R4, R5, R7, R10 to R15, R23, R24, R29, R31): a module's answers, stalls and
releases, the host-wait limit, and abandonment. -/

namespace Sys2Proof.Machine

/-! ## The byte on a downstream bus (R4, R13, R25) -/

/-- A byte that the part has on a downstream bus: an address with its direction, an offset or data byte sent, or a data
byte that the module is to send. -/
inductive BusByte
  | address (a : BitVec 7) (read : Bool)
  | sent (v : Byte)
  | received
deriving DecidableEq, Repr

/-- A byte of the part's own transfers, which go to the module address (R7, R25). -/
def DownByte.onWire (module : BitVec 7) : DownByte → BusByte
  | .addressWrite => .address module false
  | .addressRead => .address module true
  | .offset v | .data v => .sent v
  | .read => .received

/-- R4, R13: the byte downstream for which the host of a transfer is held: at its address byte the address the host
sent. -/
def Transfer.onWire (module : BitVec 7) (x : Transfer) : Option BusByte :=
  match x.hold with
  | .none | .bus | .release => none
  | .resync j => j.current.head?.map (·.onWire module)
  | .address => some (.address x.address x.read)
  | .offset v | .data _ v => some (.sent v)
  | .read _ _ => some .received

/-- The byte on DN*g* that has no answer yet, by the bus's owner. -/
def State.wire (s : State) (g : GroupId) : Option BusByte :=
  let x := s.group g
  if x.down.wait.isNone then none
  else
    match x.owner with
    | .burst _ => x.burst.bind fun b => b.job.current.head?.map (·.onWire s.straps.moduleAddress)
    | .host _ false => (s.current g).bind fun y => y.2.onWire s.straps.moduleAddress
    | .host _ true | .idle => none

/-! ## A module's answer to the host's byte (R4, R7, R11, R12) -/

/-- The host's byte has its answer; nothing is on the bus. -/
def State.hostAnswered (s : State) (g : GroupId) (a : UpAnswer) : State :=
  ((s.setHold g .none).disarm g).answer g a

/-- R10: the byte boundary at which a cut that was waiting is made. -/
def State.atBoundary (s : State) (g : GroupId) : State :=
  match s.current g with
  | some (k, x) =>
    match x.cut with
    | some p => s.cutNow g k x p
    | none => s
  | none => s

/-- R7: a resynchronisation is refused: the host's address byte is not acknowledged, and the belief is UNKNOWN. -/
def State.refuseResync (s : State) (g : GroupId) (k : CageId) : State :=
  ((s.forgetBelief k).onTransfer g fun y => { y with path := .refused }).hostAnswered g .nack

/-- R10: the address byte of a transfer cut during its resynchronisation is answered on the new path; STOP goes
downstream and the bus is given back. -/
def State.cutResync (s : State) (g : GroupId) (p : Path) : State :=
  (((s.disarm g).select g none).answerOn g p).returnBus g

/-- R7: the module's answer to a byte of a resynchronisation. That STOP goes downstream at once after a refusal by not-acknowledge
is read from R11, since R7 does not say when it goes (assumption 28). -/
def State.resyncAnswer (s : State) (g : GroupId) (k : CageId) (x : Transfer) (j : Job) (ack : Bool) :
    State :=
  let p := s.profileOf k
  if ack then
    let r := j.advance p.bankSelect p.pageSelect (s.cage k).ctx.belief
    let s1 := s.setBelief k r.2
    match x.cut with
    | some q => s1.cutResync g q
    | none =>
      if r.1.done then
        ((s1.setBelief k (r.1.conclude r.2)).setHold g .address).arm g
      else (s1.setHold g (.resync r.1)).arm g
  else
    match x.cut with
    | some q => ((s.forgetBelief k).count k .engineNacks).cutResync g q
    | none => ((s.count k .engineNacks).refuseResync g k).select g none

/-- R4, R11: the module's answer to the relayed address byte. A module-address transfer not acknowledged ends
downstream at once: R11 says so of a write, and for a read, where R12 is silent, the model does the same (assumption 28). -/
def State.addressAnswer (s : State) (g : GroupId) (x : Transfer) (ack : Bool) : State :=
  if ack then s.hostAnswered g .ack
  else if x.path = .forwarded then
    ((s.onTransfer g fun y => { y with relay := .nacked }).hostAnswered g .nack).select g none
  else s.hostAnswered g .nack

/-- The belief after a relayed byte (R7). A foreign-address transfer does not touch it (R13). -/
def State.followByte (s : State) (k : CageId) (x : Transfer) (b : DownByte) (ack : Bool) : State :=
  if x.path = .forwarded then
    if ack then s.setBelief k ((s.cage k).ctx.belief.map (·.follow b)) else s.forgetBelief k
  else s

/-- R2, R7: an acknowledged select byte of a forwarded write: pending for the host view, and noted for the belief at
the transfer's end. -/
def State.noteSelect (s : State) (g : GroupId) (k : CageId) (o v : Byte) : State :=
  let p := s.profileOf k
  if o = p.pageSelect then
    (s.pend k o v).onTransfer g fun y => { y with pageSet := some v }
  else if p.bankSelect = some o then
    (s.pend k o v).onTransfer g fun y => { y with bankSet := some v }
  else s

/-- R11: a relayed data byte noted for the hand-over, with its region as its answer comes. -/
def State.noteData (s : State) (g : GroupId) (k : CageId) (x : Transfer) (o v : Byte) (ack : Bool) : State :=
  if x.path = .forwarded then
    let r := (s.profileOf k).classify x.bank x.page o
    let s1 := s.onTransfer g fun y =>
      { y with
        relayed := y.relayed ++ [{ offset := o, value := v, region := r, acked := ack, gap := false }]
        resetSeen := y.resetSeen || (ack && writeClassIs r .reset) }
    if ack then s1.noteSelect g k o v else s1
  else s

/-- R8: the next byte of a forwarded read would come from a control page, so the transfer downstream ends here. -/
def State.endsAtPage (s : State) (k : CageId) (x : Transfer) (hostAck : Bool) : Bool :=
  decide (x.path = .forwarded) && hostAck &&
    (s.straps.controlByte x.page (s.cage k).ctx.hostPtr).isSome

/-- R8, R12: the byte the host sees: the shadow page value at the page-select offset while it is a control page. -/
def State.shownByte (s : State) (k : CageId) (x : Transfer) (o v : Byte) : Byte :=
  if x.path = .forwarded ∧ o = (s.profileOf k).pageSelect ∧
      (s.straps.controlPage (s.cage k).ctx.shadowPage).isSome = true then
    (s.cage k).ctx.shadowPage
  else v

/-- R12, R37: a module byte read, kept for the cache unless it is at a select offset. -/
def State.noteRead (s : State) (g : GroupId) (k : CageId) (x : Transfer) (o v : Byte) : State :=
  if x.path = .forwarded then
    s.onTransfer g fun y =>
      { y with readBytes := y.readBytes ++ (s.profileOf k).cacheBytes x.bank x.page o [v] }
  else s

/-- R4, R8, R12: a byte read from the module is sent up; the part gives the module the host's acknowledge, or a
not-acknowledge where it ends the transfer itself. -/
def State.readAnswer (s : State) (g : GroupId) (k : CageId) (x : Transfer) (o : Byte) (hostAck : Bool)
    (v : Byte) : State :=
  let ends := s.endsAtPage k x hostAck
  let shown := s.shownByte k x o v
  let s1 := ((s.followByte k x .read true).noteRead g k x o v).setLastAck g (hostAck && !ends)
  let s2 := (s1.onTransfer g fun y => { y with ended := !hostAck }).hostAnswered g (.data shown)
  if ends then s2.afterSelect g k x else s2

/-- R4: the module's answer to the byte the host is stretched for. -/
def State.hostByteAnswer (s : State) (g : GroupId) (ack : Bool) (v : Byte) : State :=
  match s.current g with
  | some (k, x) =>
    match x.hold with
    | .none | .bus | .release => s
    | .resync j => s.resyncAnswer g k x j ack
    | .address => (s.addressAnswer g x ack).atBoundary g
    | .offset o =>
      ((s.followByte k x (.offset o) ack).hostAnswered g (if ack then .ack else .nack)).atBoundary g
    | .data o b =>
      (((s.followByte k x (.data b) ack).noteData g k x o b ack).hostAnswered g
        (if ack then .ack else .nack)).atBoundary g
    | .read o hostAck => (s.readAnswer g k x o hostAck v).atBoundary g
  | none => s

/-- R4, R26 to R29: MODULE_ANSWER. A byte is on the bus, and its answer comes within the module-wait limit. -/
def State.moduleAnswers (s : State) (g : GroupId) (ack : Bool) (v : Byte) : State :=
  let x := s.group g
  if x.down.wait.isSome && !x.down.stalled then
    match x.owner with
    | .burst _ => match x.burst with
      | some b => s.burstAnswer g b ack v
      | none => s
    | .host _ false => s.hostByteAnswer g ack v
    | _ => s
  else s

/-! ## Stalls (R5, R14) -/

/-- R14: the module holds DSCL past the module-wait limit during a host transfer. -/
def State.hostStall (s : State) (g : GroupId) (k : CageId) (x : Transfer) : State :=
  let s1 := ((s.forgetBelief k).count k .moduleStalls).onGroup g fun y =>
    { y with down := { y.down with stalled := true } }
  match x.hold with
  | .none | .bus | .release => s
  | .resync _ =>
    match x.cut with
    | some q => ((s1.disarm g).answerOn g q).returnBus g
    | none => s1.refuseResync g k
  | .address | .offset _ | .data _ _ =>
    ((s1.onTransfer g fun y => { y with relay := .stalled }).hostAnswered g .nack).atBoundary g
  | .read _ hostAck =>
    ((s1.onTransfer g fun y =>
        { y with relay := .stalled, ended := !hostAck }).hostAnswered g (.data 255#8)).atBoundary g

/-- R5, R14, R26 to R29: MODULE_STALL. -/
def State.moduleStalls (s : State) (g : GroupId) : State :=
  let x := s.group g
  if x.down.wait.isSome && !x.down.stalled then
    match x.owner with
    | .burst _ => match x.burst with
      | some b => s.burstStall g b
      | none => s
    | .host _ false => match s.current g with
      | some (k, t) => s.hostStall g k t
      | none => s
    | _ => s
  else s

/-- R24, R29, R31: what STOP, sent now that the module has released DSCL, leads to in a burst. -/
def State.burstReleased (s : State) (g : GroupId) (b : Burst) : State :=
  if b.aborting then s.closeBurst b.cage
  else
    match b.phase with
    | .select | .data => (s.select g none).startRestore g b false
    | .restore _ | .ended => s.stopBurst g b

/-- R14, R24, R29, R31: MODULE_RELEASES_DSCL. -/
def State.moduleReleases (s : State) (g : GroupId) : State :=
  if (s.group g).down.stalled then
    let s1 := s.onGroup g fun y => { y with down := { y.down with stalled := false } }
    match (s.group g).owner with
    | .burst _ => match (s.group g).burst with
      | some b => s1.burstReleased g b
      | none => s1
    | .host _ true => s1.freeBus g
    | .host _ false =>
      let s2 := s1.select g none
      match s.current g with
      | some (_, { hold := .release, .. }) => s2.startForward g
      | _ => s2
    | .idle => s1
  else s

/-! ## The host-wait limit (R23) -/

/-- R23: the path of a transfer refused at its address byte. -/
def Path.refusal (p : Path) : Path := if p.isModule then .refused else .foreignRefused

/-- R23: HOST_WAIT_EXPIRY. -/
def State.hostWaitOver (s : State) (g : GroupId) : State :=
  match (s.group g).waiting with
  | none => s
  | some _ =>
    match s.current g with
    | some (_, x) => (s.stopWaiting g).answerOn g x.path.refusal
    | none => s.stopWaiting g

/-! ## Abandonment (R15) -/

/-- R15: what the abandoned transfer leaves: an UNKNOWN belief when its downstream side is cut off, and no pending
select. -/
def State.dropTransfer (s : State) (k : CageId) (x : Option Transfer) : State :=
  let s1 := s.onCtx k fun c => { c with pendingBank := none, pendingPage := none }
  match x with
  | some t => if t.path.isRelayed && decide (t.relay = .live) then s1.forgetBelief k else s1
  | none => s1

/-- R15: the transaction of a cage is abandoned. -/
def State.abandon (s : State) (g : GroupId) : State :=
  if s.stretched g then s
  else
    match (s.group g).up.transaction with
    | some { cage := some k, transfer := t } =>
      ((((s.dropTransfer k t).countDevice .abandoned 1).setTransaction g none).answer g
        .released).returnBus g
    | _ => s

end Sys2Proof.Machine
end

