-- ==== Sys2Proof/Machine/Reports.lean ====
section
/-! DEFINITION. The end of a burst (R30): what it counts, the reports to the sequencer's operations and to the Light
Monitor, and the expiry of the retry intervals (R33). -/

namespace Sys2Proof.Machine

/-! ## Readiness polls (R127) -/

/-- R100, R104: a poll found the module ready. -/
def State.pollReady (s : State) (k : CageId) : State :=
  let s1 := (s.onSeq k fun q => { q with waitTimer := none }).onOps k fun o =>
    { o with polling := none }
  match (s.cage k).seq.state with
  | .booting => s1.enterIdentifying k
  | .ramping => s1.enterReplaying k false
  | _ => s1

/-- R70: the bytes a poll's report gives the cache: in RAMPING, those of LIVE regions. -/
def State.fillFromPoll (s : State) (k : CageId) (r : Report) : State :=
  if (s.cage k).seq.state = .ramping then
    s.fillCache k ((r.cacheBytes (s.profileOf k)).filter fun b => decide (b.readClass = .live))
  else s

/-- R127: a report of a readiness poll. -/
def State.pollReport (s : State) (k : CageId) (x : Polling) (r : Report) : State :=
  let s1 := s.fillFromPoll k r
  match r.outcome, r.received with
  | .complete, [v] => if readyByte x.mask x.value v then s1.pollReady k else s1.startPollTimer k
  | _, _ => s1.startPollTimer k

/-! ## Samples (R160, R165, R168, R169) -/

/-- R165: a test of the required lanes after a completed sample in VERIFYING. -/
def State.testVerify (s : State) (k : CageId) : State :=
  if (s.profileOf k).allLit (s.cage k).light.lanes then
    (s.endLight k).onSeq k fun q => { q with serveCheck := true }
  else s.endSample k

/-- R160 to R162: a completed sample. -/
def State.sampleComplete (s : State) (k : CageId) (x : Sample) (bytes : List Byte) : State :=
  let before := (s.cage k).light.lanes
  let after := judgeLanes before (s.profileOf k).lane x.lanes bytes
  let s1 := s.onLight k fun l => { l with lanes := after }
  match (s.cage k).light.activity with
  | .verify => s1.testVerify k
  | .monitor =>
    ((s1.onLight k fun l => { l with failedRun := 0 }).reportLanes k before after).endSample k
  | .idle => s1

/-- R160, R169: a failed sample; the eighth in a row in MONITOR starts a SILENT recovery. -/
def State.sampleFailed (s : State) (k : CageId) : State :=
  let l := (s.cage k).light
  if l.activity = .monitor then
    let s1 := s.onLight k fun y => { y with failedRun := min Config.failedSampleLimit (y.failedRun + 1) }
    if l.failedRun + 1 = Config.failedSampleLimit then s1.silentRecovery k else s1.endSample k
  else s.endSample k

/-- R160: a report of a lane sample. -/
def State.sampleReport (s : State) (k : CageId) (x : Sample) (r : Report) : State :=
  let s1 := s.fillCache k (r.cacheBytes (s.profileOf k))
  match r.outcome with
  | .complete => s1.sampleComplete k x r.received
  | .nacked | .stalled =>
    if x.failures + 1 < s.settings.retryLimit then
      s1.onLight k fun l =>
        { l with
          sample :=
            some { x with failures := x.failures + 1, retry := some (Timer.start s.settings.retryInterval) } }
    else s1.sampleFailed k
  | .aborted => s1

/-! ## The end of a burst (R30) -/

/-- R30: whether the burst counts in ENGINE_NACKS: its outcome NACKED or its restore not acknowledged, but for a
readiness poll in BOOTING or RAMPING. -/
def Burst.countsNack (b : Burst) : Bool :=
  (decide (b.outcome = some .nacked) || decide (b.restoreFailed = some .nacked)) &&
    !decide (b.request.purpose = .poll)

/-- R30: whether the burst counts in MODULE_STALLS. -/
def Burst.countsStall (b : Burst) : Bool :=
  decide (b.outcome = some .stalled) || decide (b.restoreFailed = some .stalled)

/-- R30: the counters of a burst that has ended, at most once each. -/
def Cage.countBurst (c : Cage) (b : Burst) : Cage :=
  let c1 := if b.countsNack then c.count .engineNacks else c
  if b.countsStall then c1.count .moduleStalls else c1

/-- R30: the report of a burst. -/
def Burst.report (b : Burst) : Report :=
  { request := b.request, bank := b.bank, page := b.page, outcome := b.outcome.getD .complete,
    acked := b.acked, received := b.received }

/-- R30: a report reaches the operation it is for; an operation no longer under way discards it. -/
def State.deliver (s : State) (k : CageId) (r : Report) : State :=
  let o := (s.cage k).ops
  match r.request.purpose with
  | .poll => match o.polling with
    | some x => s.pollReport k x r
    | none => s
  | .identity => match o.identification with
    | some x => s.idReport k x r
    | none => match o.capture with
      | some x => s.captureReport k x r
      | none => s
  | .prefetch => match o.identification with
    | some x => s.idReport k x r
    | none => s
  | .replayWrite | .readBack => s.replayReport k r
  | .probe => match o.probe with
    | some x => s.probeReport k x r
    | none => s
  | .sample => match (s.cage k).light.sample with
    | some x => s.sampleReport k x r
    | none => s

/-- R142: the discarded report a glitch probe waited for has come. -/
def State.afterDiscard (s : State) (k : CageId) : State :=
  if (s.cage k).ops.glitchWait = some .report then s.startProbe k true else s

/-- R30: a burst that is over ends: it counts, its report is delivered or discarded, its slot empties, and the arbiter
chooses again. A burst whose select offsets changed under it leaves the belief UNKNOWN (R35). -/
def State.endBurst (s : State) (b : Burst) : State :=
  let s1 := s.onCage b.cage (·.countBurst b)
  let s2 := if b.spoiled then s1.forgetBelief b.cage else s1
  let s3 :=
    if b.orphan then
      if b.agent = .sequencer then s2.afterDiscard b.cage else s2
    else s2.deliver b.cage b.report
  s3.closeBurst b.cage

/-! ## Retry intervals (R33) -/

/-- R33: the sequencer's retry interval is over: the operation raises the same burst again. -/
def State.sequencerRetry (s : State) (k : CageId) : State :=
  let o := (s.cage k).ops
  let s1 := s.onOps k fun y => { y with retry := none }
  match o.probe with
  | some x =>
    s1.raise k .sequencer { purpose := .probe, target := x.loc.target, data := none }
  | none => match o.capture with
    | some { todo := (_, _, t) :: _, .. } =>
      s1.raise k .sequencer { purpose := .identity, target := t, data := none }
    | some _ => s1
    | none => match o.identification with
      | some { todo := r :: _, .. } => s1.raise k .sequencer r.request
      | some _ => s1
      | none => s1.replayRetry k

/-- R33, R160: the Light Monitor's retry interval is over: the same request is raised again. -/
def State.monitorRetry (s : State) (k : CageId) (x : Sample) : State :=
  (s.onLight k fun l => { l with sample := some { x with retry := none } }).raise k .monitor x.request

end Sys2Proof.Machine
end

