-- ==== Sys2Proof/Machine/BusRows.lean ====
section
/-! DEFINITION. The meanings of the bus rows: START to ABANDONED on a group's ports, the end of a burst, and the retry
intervals. An event without its occasion changes nothing (assumption 2). -/

namespace Sys2Proof.Machine

/-- START (R3). An open transaction ends first, as by STOP. -/
def execStart (g : GroupId) (selects : BitVec 4) (s : State) : Host.Outcome State Fault Refusal :=
  event s fun t => t.whenever (!t.stretched g) fun u => (u.endTransaction g).beginTransaction g selects

/-- REPEATED_START (R3). -/
def execRepeatedStart (g : GroupId) (s : State) : Host.Outcome State Fault Refusal :=
  event s fun t => t.whenever (!t.stretched g) (·.nextTransfer g)

/-- STOP (R6). -/
def execStop (g : GroupId) (s : State) : Host.Outcome State Fault Refusal :=
  event s fun t => t.whenever (!t.stretched g) (·.endTransaction g)

/-- ADDRESS_BYTE (R9). -/
def execAddressByte (g : GroupId) (address : BitVec 7) (read : Bool) (s : State) :
    Host.Outcome State Fault Refusal :=
  event s fun t => t.whenever (!t.stretched g) (·.takeAddress g address read)

/-- OFFSET_BYTE (R1). -/
def execOffsetByte (g : GroupId) (offset : Byte) (s : State) : Host.Outcome State Fault Refusal :=
  event s fun t => t.whenever (!t.stretched g) (·.takeOffset g offset)

/-- WRITE_DATA_BYTE (R8, R11, R16). -/
def execWriteDataByte (g : GroupId) (value : Byte) (s : State) : Host.Outcome State Fault Refusal :=
  event s fun t => t.whenever (!t.stretched g) (·.takeWriteByte g value)

/-- READ_DATA_BYTE (R8, R12, R17). -/
def execReadDataByte (g : GroupId) (hostAck : Bool) (s : State) : Host.Outcome State Fault Refusal :=
  event s fun t => t.whenever (!t.stretched g) (·.takeReadByte g hostAck)

/-- MODULE_ANSWER (R4). -/
def execModuleAnswer (g : GroupId) (ack : Bool) (data : Byte) (s : State) :
    Host.Outcome State Fault Refusal :=
  event s (·.moduleAnswers g ack data)

/-- MODULE_STALL (R14). -/
def execModuleStall (g : GroupId) (s : State) : Host.Outcome State Fault Refusal :=
  event s (·.moduleStalls g)

/-- MODULE_RELEASES_DSCL (R14, R24, R31). -/
def execModuleReleasesDscl (g : GroupId) (s : State) : Host.Outcome State Fault Refusal :=
  event s (·.moduleReleases g)

/-- HOST_WAIT_EXPIRY (R23). -/
def execHostWaitExpiry (g : GroupId) (s : State) : Host.Outcome State Fault Refusal :=
  event s (·.hostWaitOver g)

/-- ABANDONED (R15). -/
def execAbandoned (g : GroupId) (s : State) : Host.Outcome State Fault Refusal :=
  event s (·.abandon g)

/-- R30: the burst of a group that has sent its last STOP. -/
def State.endedBurst (s : State) (g : GroupId) : Option Burst :=
  match (s.group g).burst with
  | some b =>
    if b.phase = .ended ∧ (s.group g).down.stalled = false ∧ groupOf b.cage = g then some b else none
  | none => none

/-- BURST_END (R30). -/
def execBurstEnd (g : GroupId) (s : State) : Host.Outcome State Fault Refusal :=
  event s fun t =>
    match t.endedBurst g with
    | some b => t.endBurst b
    | none => t

/-- R33: an agent's retry interval runs out. -/
def State.retryOver (s : State) (k : CageId) (agent : Agent) : State :=
  match agent with
  | .sequencer => s.whenever (s.cage k).ops.retry.isSome (·.sequencerRetry k)
  | .monitor =>
    match (s.cage k).light.sample with
    | some x => s.whenever x.retry.isSome (·.monitorRetry k x)
    | none => s

/-- RETRY_INTERVAL_EXPIRY (R33). -/
def execRetryIntervalExpiry (k : CageId) (agent : Agent) (s : State) :
    Host.Outcome State Fault Refusal :=
  event s (·.retryOver k agent)

end Sys2Proof.Machine
end

