-- ==== Sys2Proof/Machine/CommandRows.lean ====
section
/-! DEFINITION. The meanings of the command rows (R188): the argument bytes of the row are written, then the command
byte is, and the command is taken in that event (assumption 5). -/

namespace Sys2Proof.Machine

/-- RESUME (R117). -/
def execResume (k : CageId) (s : State) : Host.Outcome State Fault Refusal :=
  event s fun t => State.give k 1#8 (t.resume k)

/-- ADOPT (R118). -/
def execAdopt (k : CageId) (s : State) : Host.Outcome State Fault Refusal :=
  event s fun t => State.give k 2#8 (t.adopt k)

/-- FORCE_REPLAY (R119). -/
def execForceReplay (k : CageId) (s : State) : Host.Outcome State Fault Refusal :=
  event s fun t => State.give k 3#8 (t.forceReplay k)

/-- RELEASE (R120). -/
def execRelease (k : CageId) (s : State) : Host.Outcome State Fault Refusal :=
  event s fun t => State.give k 4#8 (t.release k)

/-- MODULE_RESET (R121). -/
def execModuleReset (k : CageId) (s : State) : Host.Outcome State Fault Refusal :=
  event s fun t => State.give k 5#8 (t.moduleReset k)

/-- CAGE_CLEAR (R122). -/
def execCageClear (k : CageId) (s : State) : Host.Outcome State Fault Refusal :=
  event s fun t => State.give k 6#8 (t.cageClear k)

/-- BIND_PROFILE (R43). -/
def execBindProfile (k : CageId) (profile : Byte) (s : State) : Host.Outcome State Fault Refusal :=
  event s fun t => State.give k 7#8 ((t.setArg0 k profile).bindProfile k profile)

/-- OWN (R91). -/
def execOwn (k : CageId) (line owner : Byte) (s : State) : Host.Outcome State Fault Refusal :=
  event s fun t => State.give k 8#8 (((t.setArg0 k line).setArg1 k owner).ownLine k line owner)

/-- LINE (R92). -/
def execLine (k : CageId) (line level : Byte) (s : State) : Host.Outcome State Fault Refusal :=
  event s fun t => State.give k 9#8 (((t.setArg0 k line).setArg1 k level).setLine k line level)

/-- SNAPSHOT with CAGE (R181). -/
def execSnapshotCage (k : CageId) (s : State) : Host.Outcome State Fault Refusal :=
  event s fun t => State.give k 10#8 ((t.setArg0 k 0#8).takeSnapshot k 0#8)

/-- SNAPSHOT with DEVICE (R181). -/
def execSnapshotDevice (k : CageId) (s : State) : Host.Outcome State Fault Refusal :=
  event s fun t => State.give k 10#8 ((t.setArg0 k 1#8).takeSnapshot k 1#8)

/-- SET_MODE (R189). -/
def execSetMode (k : CageId) (mode : Byte) (s : State) : Host.Outcome State Fault Refusal :=
  event s fun t => State.give k 11#8 ((t.setArg0 k mode).changeMode mode)

/-- A command byte of no command (R188). A code of the table, ill-formed here, gives that command. -/
def execUnknownCommand (k : CageId) (code : Byte) (s : State) : Host.Outcome State Fault Refusal :=
  event s fun t => State.give k code (t.runCommand k code)

end Sys2Proof.Machine
end

