-- ==== Sys2Proof/Machine/PageRows.lean ====
section
/-! DEFINITION. The meanings of the control-page write rows (R35, R60, R156, R163, R175, R176, R184 to R187): each is
the acknowledge of one byte. A byte written by WRITE_DATA_BYTE on a control page performs the same operations. -/

namespace Sys2Proof.Machine

/-- FLAG_CLEAR (R175). -/
def execFlagClear (k : CageId) (which : FlagByte) (value : Byte) (s : State) :
    Host.Outcome State Fault Refusal :=
  event s (·.clearFlags k which value)

/-- ENABLE_WRITE (R176). -/
def execEnableWrite (k : CageId) (which : FlagByte) (value : Byte) (s : State) :
    Host.Outcome State Fault Refusal :=
  event s (·.writeEnables k which value)

/-- BUDGET_WRITE (R156): the less significant byte, with which the pair takes effect. -/
def execBudgetWrite (value : Byte) (s : State) : Host.Outcome State Fault Refusal :=
  event s (·.writeBudget value)

/-- QUOTA_WRITE (R60). -/
def execQuotaWrite (k : CageId) (value : Byte) (s : State) : Host.Outcome State Fault Refusal :=
  event s (·.writeQuota k value)

/-- SELECT_OFFSET_WRITE (R35). -/
def execSelectOffsetWrite (p : ProfileId) (bank : Bool) (value : Byte) (s : State) :
    Host.Outcome State Fault Refusal :=
  event s (·.writeSelect p bank value)

/-- THRESHOLD_WRITE (R163): the less significant byte, with which the pair takes effect. -/
def execThresholdWrite (p : ProfileId) (lit : Bool) (value : Byte) (s : State) :
    Host.Outcome State Fault Refusal :=
  event s (·.writeThreshold p lit value)

/-- WINDOW_SELECTOR_WRITE (R186). -/
def execWindowSelectorWrite (k : CageId) (index : Bool) (value : Byte) (s : State) :
    Host.Outcome State Fault Refusal :=
  event s (·.writeSelector k index value)

/-- PROFILE_FIELD_WRITE (R44, R187): a byte of the WINDOW page of cage `k`. -/
def execProfileFieldWrite (k : CageId) (offset value : Byte) (s : State) :
    Host.Outcome State Fault Refusal :=
  event s (·.windowWrite k offset value)

/-- SETTING_WRITE (R184): any other byte of a control page. -/
def execSettingWrite (k : CageId) (page : ControlPage) (offset value : Byte) (s : State) :
    Host.Outcome State Fault Refusal :=
  event s (·.pageWrite k page offset value)

end Sys2Proof.Machine
end

