-- ==== Sys2Proof/Machine/Presence.lean ====
section
/-! DEFINITION. The Presence Qualifier (R79 to R87) and what the Cage Sequencer does at a settle qualification (R99),
a glitch (R110, R111) and a qualified removal (R109). -/

namespace Sys2Proof.Machine

/-! ## Settling (R80 to R84) -/

/-- R83: the effective settle time, in ms. -/
def settleTime (base limit bounces : Nat) : Nat := base * 10 * 2 ^ min 3 (bounces - limit)

/-- R80: a rise in ABSENT begins an insertion. -/
def Qualifier.rise (q : Qualifier) (base limit : Nat) : Qualifier :=
  { q with
    phase := .settling
    present := true
    bounces := 0
    unstable := false
    timer := some (Timer.start (settleTime base limit 0))
    absenceAtRise := q.absence }

/-- R82, R85: the sampled presence becomes absent; the removal-qualify timer starts. -/
def Qualifier.drop (q : Qualifier) (phase : Phase) (removal : Nat) : Qualifier :=
  { q with phase := phase, present := false, timer := some (Timer.start removal) }

/-- R82, R83: a bounce. -/
def Qualifier.bounce (q : Qualifier) (base limit : Nat) : Qualifier :=
  let n := min 255 (q.bounces + 1)
  { q with
    phase := .settling
    present := true
    bounces := n
    unstable := q.unstable || decide (limit < n)
    timer := some (Timer.start (settleTime base limit n))
    absenceAtRise := if q.absence.isSome then q.absence else q.absenceAtRise }

/-- R83: a bounce that takes the count above the limit for the first time in the insertion. -/
def Qualifier.becomesUnstable (q : Qualifier) (limit : Nat) : Bool :=
  !q.unstable && decide (limit < min 255 (q.bounces + 1))

/-- R81: the settle qualifies. -/
def Qualifier.settle (q : Qualifier) : Qualifier :=
  { q with
    phase := .present
    timer := none
    absence := if q.absenceAtRise.isSome then none else q.absence }

/-- The time the running phase timer had been started with. -/
def Qualifier.timerLength (q : Qualifier) : Nat := (q.timer.map (·.duration)).getD 0

/-- R84: the removal-qualify time runs out on a module never accepted. -/
def Qualifier.giveUp (q : Qualifier) : Qualifier :=
  { q with
    phase := .absent
    timer := none
    absence := if q.absence.isSome then q.absence else some q.timerLength }

/-- R86: the removal-qualify time runs out on an accepted module. -/
def Qualifier.leave (q : Qualifier) : Qualifier :=
  { q with phase := .absent, timer := none, absence := some q.timerLength }

/-- R85: the presence returns in time. -/
def Qualifier.glitch (q : Qualifier) : Qualifier :=
  { q with phase := .present, present := true, timer := none }

/-! ## The settle qualification (R81, R99) -/

/-- R81: LAST_ABSENCE, INSERTIONS and PRESENCE. -/
def Cage.acceptModule (c : Cage) : Cage :=
  let e := match c.qual.absenceAtRise with
    | some t => { c.events with lastAbsence := t }
    | none => c.events
  ({ c with qual := c.qual.settle, events := e }.count .insertions).latch .presence

/-- R98, R99: the recovery at a settle qualification: begun, or its kind set afresh. -/
def State.settleRecovery (s : State) (k : CageId) : State :=
  let kind := (s.cage k).seq.reseatKind
  match (s.cage k).seq.recovery with
  | none => s.startRecovery k kind
  | some _ => s.onSeq k fun q => { q with recovery := some kind }

/-- R81, R99: the settle qualification of cage `k`: BOOTING with the idle charge, whatever the budget. -/
def State.settleQualifies (s : State) (k : CageId) : State :=
  ((((s.onCage k (·.acceptModule)).settleRecovery k).onSeq k fun q =>
      { q with identified := false }).setCharge k s.settings.idleCharge false).enterBooting k

/-! ## Glitches (R110, R111, R142) -/

/-- R142: the periodic probe ends for a glitch probe: a request is withdrawn, a running burst's report is discarded and
awaited. -/
def State.replacePeriodic (s : State) (k : CageId) : State :=
  let running : Bool := match s.burstOf k with
    | some b => decide (b.agent = .sequencer) && !b.orphan
    | none => false
  let s1 := (s.onOps k fun o => { o with probe := none, retry := none }).withdraw k .sequencer
  if running then s1.onOps k fun o => { o with glitchWait := some .report } else s1.startProbe k true

/-- R110, R142: a glitch in SERVING, its GLITCH event raised. -/
def State.judgeGlitch (s : State) (k : CageId) : State :=
  let o := (s.cage k).ops
  match o.glitchWait, o.probe with
  | some _, _ => s
  | none, some { glitch := true, .. } => s
  | none, p =>
    if (s.profileOf k).usableProbe.isNone then s.silentRecovery k
    else
      match p, o.capture with
      | some _, _ => s.replacePeriodic k
      | none, some _ => s.onOps k fun y => { y with glitchWait := some .capture }
      | none, none => s.startProbe k true

/-- R85, R110, R111: a glitch reported to the sequencer, by its state. -/
def State.glitchReported (s : State) (k : CageId) : State :=
  let s1 := s.latch k .glitch
  match (s.cage k).seq.state with
  | .serving => s1.judgeGlitch k
  | .booting | .identifying | .admitting | .ramping | .replaying | .verifying => s1.restart k
  | .held | .vacant | .settling => s1

/-! ## The qualified removal of an accepted module (R86, R109) -/

/-- R86: the absence measurement, REMOVALS and PRESENCE. -/
def Cage.loseModule (c : Cage) : Cage :=
  ({ c with qual := c.qual.leave }.count .removals).latch .presence

/-- R98, R109: a removal from SERVING begins a recovery; from HELD it ends the hold. -/
def State.removalRecovery (s : State) (k : CageId) : State :=
  match (s.cage k).seq.state with
  | .serving => s.startRecovery k (s.cage k).seq.reseatKind
  | .held => s.onSeq k fun q => { q with holdReason := .none }
  | _ => s

/-- R109: the cage goes to VACANT; a pulse in progress ends (R90). -/
def Cage.vacate (c : Cage) : Cage :=
  { c with
    seq := { c.seq with state := .vacant }
    lines := { c.lines with pulse := none } }

/-- R86, R109: the qualified removal of cage `k`'s module, as one event. A host of the cage that waits is answered
before the bus of its stalled module is freed (R23). -/
def State.removed (s : State) (k : CageId) : State :=
  let s1 := ((s.onCage k (·.loseModule)).endOps k).endLight k
  let s2 := ((s1.removalRecovery k).onCage k (·.vacate)).forgetBelief k
  let s3 := (((s2.dropReads k).leaveService k).unstall k).abortBurst k
  ((s3.ageLines k).returnCharge k).scan

end Sys2Proof.Machine
end

