-- ==== Sys2Proof/Machine/PresenceRows.lean ====
section
/-! DEFINITION. The meanings of the presence and cage-line rows: RISE to RESET_PULSE_END (R79 to R95). Each presence
event has its occasion in one phase of the qualifier; in another it changes nothing (assumption 2). -/

namespace Sys2Proof.Machine

/-- The qualifier of cage `k` stands in a phase. -/
def State.inPhase (s : State) (k : CageId) (p : Phase) : Bool := decide ((s.cage k).qual.phase = p)

/-- RISE (R80). -/
def execRise (k : CageId) (s : State) : Host.Outcome State Fault Refusal :=
  event s fun t => t.whenever (t.inPhase k .absent) fun u =>
    u.onCage k fun c =>
      { c with
        qual := c.qual.rise u.settings.settleBase u.settings.bounceLimit
        seq := { c.seq with state := .settling } }

/-- DROP_DURING_SETTLE (R82). -/
def execDropDuringSettle (k : CageId) (s : State) : Host.Outcome State Fault Refusal :=
  event s fun t => t.whenever (t.inPhase k .settling) fun u =>
    u.onQual k (·.drop .settleDrop u.settings.removalQualify)

/-- R82, R83: the bounce is counted, and UNSTABLE raised when the insertion becomes unstable. -/
def Cage.bounce (c : Cage) (base limit : Nat) : Cage :=
  let d := { c with qual := c.qual.bounce base limit }.count .bounces
  if c.qual.becomesUnstable limit then d.latch .unstable else d

/-- BOUNCE (R82). -/
def execBounce (k : CageId) (s : State) : Host.Outcome State Fault Refusal :=
  event s fun t => t.whenever (t.inPhase k .settleDrop) fun u =>
    u.onCage k (·.bounce u.settings.settleBase u.settings.bounceLimit)

/-- SETTLE_QUALIFICATION (R81, R99). -/
def execSettleQualification (k : CageId) (s : State) : Host.Outcome State Fault Refusal :=
  event s fun t => t.whenever (t.inPhase k .settling) (·.settleQualifies k)

/-- UNACCEPTED_REMOVAL (R84, R99). -/
def execUnacceptedRemoval (k : CageId) (s : State) : Host.Outcome State Fault Refusal :=
  event s fun t => t.whenever (t.inPhase k .settleDrop) fun u =>
    u.onCage k fun c => { c with qual := c.qual.giveUp, seq := { c.seq with state := .vacant } }

/-- DROP (R85). -/
def execDrop (k : CageId) (s : State) : Host.Outcome State Fault Refusal :=
  event s fun t => t.whenever (t.inPhase k .present) fun u =>
    u.onQual k (·.drop .presentDrop u.settings.removalQualify)

/-- GLITCH (R85, R110, R111). -/
def execGlitch (k : CageId) (s : State) : Host.Outcome State Fault Refusal :=
  event s fun t => t.whenever (t.inPhase k .presentDrop) fun u =>
    (u.onCage k fun c => { c with qual := c.qual.glitch }.count .glitches).glitchReported k

/-- QUALIFIED_REMOVAL (R86, R109). -/
def execQualifiedRemoval (k : CageId) (s : State) : Host.Outcome State Fault Refusal :=
  event s fun t => t.whenever (t.inPhase k .presentDrop) (·.removed k)

/-- MIRQ_CHANGE (R79, R95). -/
def execMirqChange (k : CageId) (asserted : Bool) (s : State) : Host.Outcome State Fault Refusal :=
  event s fun t => t.onQual k fun q => { q with interrupt := asserted }

/-- RESET_PULSE_END (R90, R93). -/
def execResetPulseEnd (k : CageId) (s : State) : Host.Outcome State Fault Refusal :=
  event s fun t => t.whenever (t.cage k).lines.pulse.isSome fun u =>
    (u.onCage k fun c => { c with lines := { c.lines with pulse := none } }).mrstReleased k

end Sys2Proof.Machine
end

