-- ==== Sys2Proof/Machine/ResetRows.lean ====
section
/-! DEFINITION. The meanings of the reset rows (R190, R191). The queue of commands and the tie counter are the model's
own and are kept. -/

namespace Sys2Proof.Machine

/-- RESET_N_ASSERTION (R190, R191): every operation ends where it stands, and the part is held at its start-up state.
The straps keep the values sampled at the latest start-up (R182). -/
def execResetNAssertion (s : State) : Host.Outcome State Fault Refusal :=
  .next { State.startUp s.straps with inReset := true, ties := s.ties, pending := s.pending }

/-- START_UP (R182, R190): the straps are sampled and the part starts up. -/
def execStartUp (maddr mode : Bool) (cpage : BitVec 2) (s : State) : Host.Outcome State Fault Refusal :=
  .next
    { State.startUp { maddr := maddr, mode := mode, cpage := cpage } with
      ties := s.ties, pending := s.pending }

end Sys2Proof.Machine
end

