-- ==== Sys2Proof/Machine/TimerRows.lean ====
section
/-! DEFINITION. The meanings of the timer rows of the sequencer, its operations and the Light Monitor. Each is the
expiry itself, and has its occasion while its timer runs (assumption 2, 4). -/

namespace Sys2Proof.Machine

/-- The wait timer of cage `k` runs as the given kind. -/
def State.waits (s : State) (k : CageId) (w : WaitKind) : Bool :=
  decide (((s.cage k).seq.waitTimer.map (·.1)) = some w)

/-- BOOT_TIMEOUT (R100). -/
def execBootTimeout (k : CageId) (s : State) : Host.Outcome State Fault Refusal :=
  event s fun t => t.whenever (t.waits k .bootTimeout) (·.enterHeld k .bootTimeout)

/-- BOOT_DELAY (R100). -/
def execBootDelay (k : CageId) (s : State) : Host.Outcome State Fault Refusal :=
  event s fun t => t.whenever (t.waits k .bootDelay) fun u => (u.endWait k).enterIdentifying k

/-- RAMP_TIMEOUT (R104). -/
def execRampTimeout (k : CageId) (s : State) : Host.Outcome State Fault Refusal :=
  event s fun t => t.whenever (t.waits k .rampTimeout) (·.enterHeld k .rampTimeout)

/-- RAMP_DELAY (R104). -/
def execRampDelay (k : CageId) (s : State) : Host.Outcome State Fault Refusal :=
  event s fun t => t.whenever (t.waits k .rampDelay) fun u => (u.endWait k).enterReplaying k false

/-- The poll timer of cage `k` runs. -/
def State.pollTimerRuns (s : State) (k : CageId) : Bool :=
  (((s.cage k).ops.polling.bind (·.timer))).isSome

/-- POLL_TIMER_EXPIRY (R127). -/
def execPollTimerExpiry (k : CageId) (s : State) : Host.Outcome State Fault Refusal :=
  event s fun t => t.whenever (t.pollTimerRuns k) (·.raisePoll k)

/-- SETTLE_WAIT_END (R137). -/
def execSettleWaitEnd (k : CageId) (s : State) : Host.Outcome State Fault Refusal :=
  event s fun t => t.whenever (t.cage k).ops.cursor.timer.isSome (·.settleOver k)

/-- SERVING_CHECK (R107). -/
def execServingCheck (k : CageId) (s : State) : Host.Outcome State Fault Refusal :=
  event s fun t => t.whenever ((t.cage k).seq.serveCheck && !t.postedInFlight k) (·.serve k)

/-- CONCEAL_TIMER_EXPIRY (R114). -/
def execConcealTimerExpiry (k : CageId) (s : State) : Host.Outcome State Fault Refusal :=
  event s fun t => t.whenever (t.cage k).seq.concealTimer.isSome (·.reveal k)

/-- REVEAL_MINIMUM_EXPIRY (R115). -/
def execRevealMinimumExpiry (k : CageId) (s : State) : Host.Outcome State Fault Refusal :=
  event s fun t => t.whenever (t.cage k).seq.revealTimer.isSome fun u =>
    u.onSeq k fun q => { q with revealTimer := none }

/-- SAMPLE_TIMER_EXPIRY (R164). -/
def execSampleTimerExpiry (k : CageId) (s : State) : Host.Outcome State Fault Refusal :=
  event s fun t => t.whenever (t.cage k).light.sampleTimer.isSome (·.raiseSample k)

/-- LIGHT_TIMEOUT (R106, R165): verification ends dim, and the serving check is made. -/
def execLightTimeout (k : CageId) (s : State) : Host.Outcome State Fault Refusal :=
  event s fun t => t.whenever (t.cage k).light.lightTimeout.isSome fun u =>
    ((u.endLight k).setDim k true).onSeq k fun q => { q with serveCheck := true }

/-- R141: a probe, a glitch probe that waits, or a capture of the cage is running. -/
def Operations.probeBusy (o : Operations) : Bool :=
  o.probe.isSome || o.glitchWait.isSome || o.capture.isSome

/-- PROBE_TIMER_EXPIRY (R141). A timer that was running when the probe period was written 0 still starts a periodic probe here
(R143, assumption 32). -/
def execProbeTimerExpiry (k : CageId) (s : State) : Host.Outcome State Fault Refusal :=
  event s fun t => t.whenever (t.cage k).seq.probeTimer.isSome fun u =>
    if (u.cage k).ops.probeBusy then u.startProbeTimer k
    else (u.onSeq k fun q => { q with probeTimer := none }).startProbe k false

end Sys2Proof.Machine
end

