-- ==== Sys2Proof/Machine/Dispatch.lean ====
section
/-! DEFINITION. The dispatch of a command to its meaning: one arm per row of the opcode table. -/

namespace Sys2Proof.Machine

def exec (i : Instr) (s : State) : Host.Outcome State Fault Refusal :=
  match i with
  | .start g selects => Sys2Proof.Machine.execStart g selects s
  | .repeatedStart g => Sys2Proof.Machine.execRepeatedStart g s
  | .stop g => Sys2Proof.Machine.execStop g s
  | .addressByte g address read => Sys2Proof.Machine.execAddressByte g address read s
  | .offsetByte g offset => Sys2Proof.Machine.execOffsetByte g offset s
  | .writeDataByte g value => Sys2Proof.Machine.execWriteDataByte g value s
  | .readDataByte g hostAck => Sys2Proof.Machine.execReadDataByte g hostAck s
  | .moduleAnswer g ack data => Sys2Proof.Machine.execModuleAnswer g ack data s
  | .moduleStall g => Sys2Proof.Machine.execModuleStall g s
  | .moduleReleasesDscl g => Sys2Proof.Machine.execModuleReleasesDscl g s
  | .hostWaitExpiry g => Sys2Proof.Machine.execHostWaitExpiry g s
  | .abandoned g => Sys2Proof.Machine.execAbandoned g s
  | .burstEnd g => Sys2Proof.Machine.execBurstEnd g s
  | .retryIntervalExpiry k agent => Sys2Proof.Machine.execRetryIntervalExpiry k agent s
  | .rise k => Sys2Proof.Machine.execRise k s
  | .dropDuringSettle k => Sys2Proof.Machine.execDropDuringSettle k s
  | .bounce k => Sys2Proof.Machine.execBounce k s
  | .settleQualification k => Sys2Proof.Machine.execSettleQualification k s
  | .unacceptedRemoval k => Sys2Proof.Machine.execUnacceptedRemoval k s
  | .drop k => Sys2Proof.Machine.execDrop k s
  | .glitch k => Sys2Proof.Machine.execGlitch k s
  | .qualifiedRemoval k => Sys2Proof.Machine.execQualifiedRemoval k s
  | .mirqChange k asserted => Sys2Proof.Machine.execMirqChange k asserted s
  | .resetPulseEnd k => Sys2Proof.Machine.execResetPulseEnd k s
  | .bootTimeout k => Sys2Proof.Machine.execBootTimeout k s
  | .bootDelay k => Sys2Proof.Machine.execBootDelay k s
  | .rampTimeout k => Sys2Proof.Machine.execRampTimeout k s
  | .rampDelay k => Sys2Proof.Machine.execRampDelay k s
  | .pollTimerExpiry k => Sys2Proof.Machine.execPollTimerExpiry k s
  | .settleWaitEnd k => Sys2Proof.Machine.execSettleWaitEnd k s
  | .servingCheck k => Sys2Proof.Machine.execServingCheck k s
  | .concealTimerExpiry k => Sys2Proof.Machine.execConcealTimerExpiry k s
  | .revealMinimumExpiry k => Sys2Proof.Machine.execRevealMinimumExpiry k s
  | .sampleTimerExpiry k => Sys2Proof.Machine.execSampleTimerExpiry k s
  | .lightTimeout k => Sys2Proof.Machine.execLightTimeout k s
  | .probeTimerExpiry k => Sys2Proof.Machine.execProbeTimerExpiry k s
  | .resume k => Sys2Proof.Machine.execResume k s
  | .adopt k => Sys2Proof.Machine.execAdopt k s
  | .forceReplay k => Sys2Proof.Machine.execForceReplay k s
  | .release k => Sys2Proof.Machine.execRelease k s
  | .moduleReset k => Sys2Proof.Machine.execModuleReset k s
  | .cageClear k => Sys2Proof.Machine.execCageClear k s
  | .bindProfile k profile => Sys2Proof.Machine.execBindProfile k profile s
  | .own k line owner => Sys2Proof.Machine.execOwn k line owner s
  | .line k line level => Sys2Proof.Machine.execLine k line level s
  | .snapshotCage k => Sys2Proof.Machine.execSnapshotCage k s
  | .snapshotDevice k => Sys2Proof.Machine.execSnapshotDevice k s
  | .setMode k mode => Sys2Proof.Machine.execSetMode k mode s
  | .unknownCommand k code => Sys2Proof.Machine.execUnknownCommand k code s
  | .flagClear k which value => Sys2Proof.Machine.execFlagClear k which value s
  | .enableWrite k which value => Sys2Proof.Machine.execEnableWrite k which value s
  | .budgetWrite value => Sys2Proof.Machine.execBudgetWrite value s
  | .quotaWrite k value => Sys2Proof.Machine.execQuotaWrite k value s
  | .selectOffsetWrite p bank value => Sys2Proof.Machine.execSelectOffsetWrite p bank value s
  | .thresholdWrite p lit value => Sys2Proof.Machine.execThresholdWrite p lit value s
  | .windowSelectorWrite k index value => Sys2Proof.Machine.execWindowSelectorWrite k index value s
  | .profileFieldWrite k offset value => Sys2Proof.Machine.execProfileFieldWrite k offset value s
  | .settingWrite k page offset value => Sys2Proof.Machine.execSettingWrite k page offset value s
  | .resetNAssertion => Sys2Proof.Machine.execResetNAssertion s
  | .startUp maddr mode cpage => Sys2Proof.Machine.execStartUp maddr mode cpage s

end Sys2Proof.Machine
end

