-- ==== Sys2Proof/Machine/Timebase.lean ====
section
/-! DEFINITION. The 1 ms timebase (00_scope, R79): what one tick counts, and which event is due when no command waits.
The opcode table has no row for a tick: it is what a step does on an empty queue when nothing is due (assumption 4). -/

namespace Sys2Proof.Machine

/-! ## One tick -/

/-- A running timer counts 1 ms. -/
def Timer.tick (t : Timer) : Timer := { t with elapsed := t.elapsed + 1 }

/-- A timer that may be stopped. -/
def tickTimer (t : Option Timer) : Option Timer := t.map (·.tick)

/-- R87: the absence measurement, which stays at 65535. -/
def Qualifier.tick (q : Qualifier) : Qualifier :=
  { q with timer := tickTimer q.timer, absence := q.absence.map fun n => min 65535 (n + 1) }

/-- R97: the sequencer's timers and the recovery clock, which stays at its greatest value. -/
def Sequencer.tick (q : Sequencer) : Sequencer :=
  { q with
    clock := q.clock.map fun n => min Config.clockMax (n + 1)
    concealTimer := tickTimer q.concealTimer
    revealTimer := tickTimer q.revealTimer
    waitTimer := q.waitTimer.map fun w => (w.1, w.2.tick)
    probeTimer := tickTimer q.probeTimer }

def Operations.tick (o : Operations) : Operations :=
  { o with
    polling := o.polling.map fun p => { p with timer := tickTimer p.timer }
    cursor := { o.cursor with timer := tickTimer o.cursor.timer }
    retry := tickTimer o.retry }

def LightMonitor.tick (l : LightMonitor) : LightMonitor :=
  { l with
    sampleTimer := tickTimer l.sampleTimer
    lightTimeout := tickTimer l.lightTimeout
    sample := l.sample.map fun x => { x with retry := tickTimer x.retry } }

def Cage.tick (c : Cage) : Cage :=
  { c with
    qual := c.qual.tick
    seq := c.seq.tick
    ops := c.ops.tick
    light := c.light.tick
    lines := { c.lines with pulse := tickTimer c.lines.pulse } }

def Group.tick (x : Group) : Group :=
  { x with
    down := { x.down with wait := tickTimer x.down.wait }
    waiting := x.waiting.map fun w => { w with timer := w.timer.tick } }

/-- One tick of the whole part. -/
def State.tick (s : State) : State :=
  { s with
    cages := Vector.ofFn fun k => (s.cage k).tick
    groups := Vector.ofFn fun g => (s.group g).tick }

/-! ## What is due -/

def isDue (t : Option Timer) : Bool := (t.map (·.due)).getD false

/-- An event that is due when `b` holds. -/
def dueIf (b : Bool) (i : Instr) : Option Instr := if b then some i else none

/-- The event a group's ports are due. -/
def State.groupDue (s : State) (g : GroupId) : Option Instr :=
  let x := s.group g
  (dueIf (s.endedBurst g).isSome (.burstEnd g)).or <|
    (dueIf (isDue (x.waiting.map (·.timer))) (.hostWaitExpiry g)).or <|
      dueIf (isDue x.down.wait) (.moduleStall g)

/-- The qualifier's expiry, by its phase (R81, R84, R86). -/
def Qualifier.dueRow (q : Qualifier) (k : CageId) : Option Instr :=
  if isDue q.timer then
    match q.phase with
    | .settling => some (.settleQualification k)
    | .settleDrop => some (.unacceptedRemoval k)
    | .presentDrop => some (.qualifiedRemoval k)
    | .absent | .present => none
  else none

/-- The wait timer's expiry, by its kind (R100, R104). -/
def waitRow (k : CageId) (w : Option (WaitKind × Timer)) : Option Instr :=
  match w with
  | none => none
  | some (kind, t) =>
    if t.due then
      match kind with
      | .bootTimeout => some (.bootTimeout k)
      | .bootDelay => some (.bootDelay k)
      | .rampTimeout => some (.rampTimeout k)
      | .rampDelay => some (.rampDelay k)
    else none

/-- The event cage `k` is due, in a fixed order (DESIGN CHOICE, assumption 4). -/
def State.cageDue (s : State) (k : CageId) : Option Instr :=
  let c := s.cage k
  (c.qual.dueRow k).or <| (dueIf (isDue c.lines.pulse) (.resetPulseEnd k)).or <|
    (dueIf (isDue c.seq.concealTimer) (.concealTimerExpiry k)).or <|
    (dueIf (isDue c.seq.revealTimer) (.revealMinimumExpiry k)).or <|
    (waitRow k c.seq.waitTimer).or <|
    (dueIf (isDue (c.ops.polling.bind (·.timer))) (.pollTimerExpiry k)).or <|
    (dueIf (isDue c.ops.cursor.timer) (.settleWaitEnd k)).or <|
    (dueIf (isDue c.ops.retry) (.retryIntervalExpiry k .sequencer)).or <|
    (dueIf (isDue (c.light.sample.bind (·.retry))) (.retryIntervalExpiry k .monitor)).or <|
    (dueIf (isDue c.light.lightTimeout) (.lightTimeout k)).or <|
    (dueIf (isDue c.light.sampleTimer) (.sampleTimerExpiry k)).or <|
    (dueIf (isDue c.seq.probeTimer) (.probeTimerExpiry k)).or <|
    dueIf (c.seq.serveCheck && !s.postedInFlight k) (.servingCheck k)

/-- The event that is due when no command waits: a group's first, then a cage's. Nothing is due while RESET_N is
asserted (R190). -/
def State.due (s : State) : Option Instr :=
  if s.inReset then none
  else ((List.finRange 4).findSome? s.groupDue).or (allCages.findSome? s.cageDue)

/-- What the part does when no command waits and no event is due: a tick, unless RESET_N is asserted (R190). -/
def State.idle (s : State) : State := if s.inReset then s else s.tick

end Sys2Proof.Machine
end

