-- ==== Sys2Proof/Safety.lean ====
section
/-! DEFINITION. What the manual promises of the whole part at every moment, and the terms its statements use: the relations between
registers that every step keeps, which cage a command addresses, the frames of an event, how a recovery, a wait for the module and a
replay begin and go on, what is due on an empty queue, the arbiter's choice, what a cage's departure from service does to its group's bus,
and the layout of the control pages. -/

namespace Sys2Proof.Machine

/-! ## Which cage a command addresses -/

/-- The cage that a row names by its operand. Rows of a group's buses, of the profiles, of the device and of the reset pin
name none. -/
def addressedCage : Instr → Option CageId
  | .start _ _ | .repeatedStart _ | .stop _ | .addressByte _ _ _ | .offsetByte _ _
  | .writeDataByte _ _ | .readDataByte _ _ | .moduleAnswer _ _ _ | .moduleStall _
  | .moduleReleasesDscl _ | .hostWaitExpiry _ | .abandoned _ | .burstEnd _ => none
  | .retryIntervalExpiry k _ => some k
  | .rise k | .dropDuringSettle k | .bounce k | .settleQualification k | .unacceptedRemoval k
  | .drop k | .glitch k | .qualifiedRemoval k | .mirqChange k _ | .resetPulseEnd k => some k
  | .bootTimeout k | .bootDelay k | .rampTimeout k | .rampDelay k | .pollTimerExpiry k
  | .settleWaitEnd k | .servingCheck k | .concealTimerExpiry k | .revealMinimumExpiry k
  | .sampleTimerExpiry k | .lightTimeout k | .probeTimerExpiry k => some k
  | .resume k | .adopt k | .forceReplay k | .release k | .moduleReset k | .cageClear k
  | .bindProfile k _ | .own k _ _ | .line k _ _ | .snapshotCage k | .snapshotDevice k
  | .setMode k _ | .unknownCommand k _ => some k
  | .flagClear k _ _ | .enableWrite k _ _ | .quotaWrite k _ | .windowSelectorWrite k _ _
  | .profileFieldWrite k _ _ | .settingWrite k _ _ _ => some k
  | .budgetWrite _ | .selectOffsetWrite _ _ _ | .thresholdWrite _ _ _ => none
  | .resetNAssertion | .startUp _ _ _ => none

/-- RESET_N_ASSERTION and START_UP, the rows that put the part in its start-up state. -/
def isReset : Instr → Bool
  | .resetNAssertion | .startUp _ _ _ => true
  | _ => false

/-! ## Relations that every step keeps -/

/-- R89, R94, R95: every line stands at the level its rule gives: an ENGINE-owned line follows its engine level, HPD and HIRQ
follow theirs. -/
def State.LinesDriven (s : State) : Prop :=
  ∀ k, let c := s.cage k
    (c.lines.mrstOwner = .engine →
      (c.lines.mrst = true ↔ c.seq.state = .vacant ∨ c.seq.state = .settling ∨ c.lines.pulse.isSome)) ∧
    (c.lines.mlowOwner = .engine → (c.lines.mlow = true ↔ c.ledger.grant = false)) ∧
    (c.lines.hpd = true ↔
      ((c.seq.state = .serving ∨ c.seq.state = .held) ∧ c.seq.revealTimer = none) ∨
        c.seq.concealed = true) ∧
    (c.lines.hirq = true ↔
      (c.seq.state = .serving ∨ c.seq.state = .held) ∧ c.qual.interrupt = true)

/-- R176: ALERT is asserted exactly while an enabled flag is latched, of a cage or of the device. -/
def State.AlertFollows (s : State) : Prop :=
  s.alert = true ↔
    (∃ k, (s.cage k).events.flags &&& (s.cage k).events.enables ≠ 0#9) ∨ s.flags &&& s.enables ≠ 0#3

/-- The charges of all cages together. -/
def State.chargeSum (s : State) : Nat := ∑ k : CageId, (s.cage k).ledger.charge

/-- R145: committed is the sum of the cage charges. -/
def State.LedgerBalanced (s : State) : Prop := s.committed = s.chargeSum

/-- R177, R178: every counter is a 16-bit count. -/
def State.CountersBounded (s : State) : Prop :=
  (∀ k, ∀ i : Fin 21, (s.cage k).events.counters[i] ≤ 65535) ∧ ∀ i : Fin 4, s.counters[i] ≤ 65535

/-- R163: in every profile the lit threshold is above the dark one, and both are 16-bit numbers. -/
def State.ThresholdsApart (s : State) : Prop :=
  ∀ p, (s.profile p).lane.dark < (s.profile p).lane.lit ∧ (s.profile p).lane.lit ≤ 65535

/-- R46: the records of all journals together fit the pool. -/
def State.PoolBounded (s : State) : Prop :=
  ∑ k : CageId, (s.cage k).journal.list.length ≤ 1024

/-- R66: the lines in use fit the pool, and no two of them are for one cage and key. -/
def State.CacheSound (s : State) : Prop :=
  s.cache.length ≤ 512 ∧ s.cache.Pairwise fun a b => ¬(a.owner = b.owner ∧ a.key = b.key)

/-- R149: the wait queue stands in falling order of priority. -/
def State.QueueOrdered (s : State) : Prop := s.queue.Pairwise fun a b => b.priority ≤ a.priority

/-- R185 with the ranges of 12.3: every device setting is in its range. -/
def State.SettingsInRange (s : State) : Prop :=
  let d := s.settings
  d.budget ≤ 4095 ∧ d.idleCharge ≤ 63 ∧ d.margin ≤ 50 ∧ d.bypassLimit ≤ 7 ∧
    (1 ≤ d.retryInterval ∧ d.retryInterval ≤ 255) ∧ (1 ≤ d.retryLimit ∧ d.retryLimit ≤ 31) ∧
    (1 ≤ d.hostWait ∧ d.hostWait ≤ 100) ∧ (1 ≤ d.moduleWait ∧ d.moduleWait ≤ 255) ∧
    (1 ≤ d.removalQualify ∧ d.removalQualify ≤ 255) ∧ (1 ≤ d.settleBase ∧ d.settleBase ≤ 255) ∧
    d.bounceLimit ≤ 15 ∧ (1 ≤ d.resetPulse ∧ d.resetPulse ≤ 255) ∧
    (1 ≤ d.bootTimeout ∧ d.bootTimeout ≤ 255) ∧ (1 ≤ d.rampTimeout ∧ d.rampTimeout ≤ 255) ∧
    (1 ≤ d.revealMinimum ∧ d.revealMinimum ≤ 255) ∧ (1 ≤ d.readyPoll ∧ d.readyPoll ≤ 255) ∧
    d.readBackRetry ≤ 7 ∧ d.probePeriod ≤ 255 ∧ (1 ≤ d.lightPoll ∧ d.lightPoll ≤ 255) ∧
    (1 ≤ d.monitorPeriod ∧ d.monitorPeriod ≤ 255) ∧ (1 ≤ d.lightTimeout ∧ d.lightTimeout ≤ 255)

/-! ## The start-up state (R190) -/

/-- R6, R21, R47, R68, R79, R89, R97, R125, R132, R144, R145, R159, R174, R176, R177, R180, R186, R188, R190: what one cage
holds after start-up. -/
def Cage.AtStartUp (c : Cage) : Prop :=
  c.ctx = { shadowBank := 0#8, shadowPage := 0#8, modulePage := 0#8, hostPtr := 0#8, pendingBank := none,
            pendingPage := none, belief := none } ∧
    c.qual = { phase := .absent, present := false, interrupt := false, timer := none, bounces := 0,
               unstable := false, absence := none, absenceAtRise := none } ∧
    c.lines = { mrstOwner := .engine, mrst := true, mlowOwner := .engine, mlow := true, pulse := none,
                hpd := false, hirq := false } ∧
    c.seq = { state := .vacant, recovery := none, clock := none, holdReason := .none, outcome := .none,
              concealed := false, concealTimer := none, revealTimer := none, waitTimer := none,
              dim := false, baseline := none, declared := none, probeTimer := none, serveCheck := false,
              identified := false, verified := false } ∧
    (c.ops.polling = none ∧ c.ops.identification = none ∧ c.ops.probe = none ∧ c.ops.glitchWait = none ∧
      c.ops.capture = none ∧ c.ops.retry = none ∧
      c.ops.cursor = { position := none, passes := 0, phase := .idle, runs := [], rewrites := 0,
                       failures := 0, settle := 0, timer := none, carried := [], check := false,
                       resumed := false }) ∧
    (c.light.activity = .idle ∧ c.light.sampleTimer = none ∧ c.light.lightTimeout = none ∧
      c.light.failedRun = 0 ∧ c.light.sample = none ∧
      ∀ n : Fin 8, c.light.lanes[n] = { lit := false, litRun := 0, darkRun := 0, band := 0 }) ∧
    c.ledger = { charge := 0, grant := false, computed := none, overCeiling := false } ∧
    c.journal = { list := [], incomplete := false, frozen := false, quota := 64, target := none } ∧
    c.standing = .unmatched ∧ c.binding = 0 ∧
    c.settings = { ceiling := 120, priority := 0, concealLimit := 120 } ∧
    (c.events.flags = 0#9 ∧ c.events.enables = 511#9 ∧ (∀ i : Fin 21, c.events.counters[i] = 0) ∧
      c.events.lastAbsence = 0 ∧ c.events.lastRecovery = 0 ∧ c.events.snapshot.taken = false ∧
      (∀ i : Fin 21, c.events.snapshot.counters[i] = 0) ∧ c.events.snapshot.lastAbsence = 0 ∧
      c.events.snapshot.lastRecovery = 0) ∧
    c.control = { arg0 := 0#8, arg1 := 0#8, command := 0#8, result := 0#8, windowKind := 0,
                  windowIndex := 0#8 } ∧
    c.slot = .empty ∧ c.slotQueue = []

/-- R5, R20, R23: what one group holds after start-up. The acknowledge last given to a module is the model's own value
(assumption 13). -/
def Group.AtStartUp (x : Group) : Prop :=
  x.up = { transaction := none, answer := .released } ∧
    x.down = { selected := none, stalled := false, wait := none, lastAck := false } ∧
    x.owner = .idle ∧ x.waiting = none ∧ x.burst = none ∧ x.lastServed = 3

/-- R34, R36, R38 to R41, R184: what one profile holds after start-up. The fields of absent locations, the ready mask and value
and an entry's bank and page under ANY are the model's own values (assumption 13). -/
def Profile.AtStartUp (p : Profile) : Prop :=
  let l : Location := { area := .lower, bank := 0#8, page := 0#8, offset := 0#8 }
  p.pageSelect = 127#8 ∧ p.bankSelect = some 126#8 ∧ p.writeDefault = .retain ∧ p.readDefault = .live ∧
    (∀ i : Fin 16, p.entries[i] =
      { used := false, area := .lower, bankAny := true, pageAny := true, bank := 0#8, page := 0#8,
        first := 0#8, last := 0#8, writeClass := .retain, readClass := .live, readBack := false,
        settle := 0 }) ∧
    (∀ i : Fin 4, p.idSpans[i] = { used := false, loc := l, length := 1, role := .model }) ∧
    (∀ i : Fin 4, p.prefetch[i] = { used := false, loc := l, length := 1, role := .model }) ∧
    p.ready = { present := false, loc := l, mask := 0#8, value := 0#8 } ∧ p.bootDelay = 20 ∧
    p.power = { present := false, loc := l } ∧ p.probe = { present := false, loc := l } ∧
    p.lane =
      { count := 0, lane0 := { present := false, loc := l }, required := 0#8, lit := 300, dark := 100,
        litHeld := 1#8, darkHeld := 0#8, litCount := 3, darkCount := 3 } ∧
    p.kin = .hold

/-- R20, R34, R46, R66, R149, R173, R176, R178, R180, R190 with the defaults of the device settings: what the part holds after
start-up. -/
def State.AtStartUp (s : State) : Prop :=
  (∀ k, (s.cage k).AtStartUp) ∧ (∀ g, (s.group g).AtStartUp) ∧ (∀ p, (s.profile p).AtStartUp) ∧
    s.cache = [] ∧ s.queue = [] ∧ s.committed = 0 ∧
    s.settings =
      { budget := 320, budgetHeld := 1#8, idleCharge := 6, margin := 10, bypassLimit := 2,
        retryInterval := 10, retryLimit := 10, hostWait := 20, moduleWait := 50, removalQualify := 20,
        settleBase := 25, bounceLimit := 4, resetPulse := 10, bootTimeout := 90, rampTimeout := 30,
        revealMinimum := 50, readyPoll := 25, readBackRetry := 3, probePeriod := 5, lightPoll := 10,
        monitorPeriod := 10, lightTimeout := 20 } ∧
    s.flags = 0#3 ∧ s.enables = 7#3 ∧ (∀ i : Fin 4, s.counters[i] = 0) ∧ s.snapshot.taken = false ∧
    (∀ i : Fin 4, s.snapshot.counters[i] = 0) ∧ s.alert = false

/-! ## Frames -/

/-- Everything of the device but the cages, the groups, the alarms and ALERT is as before. -/
structure SameDevice (s t : State) : Prop where
  profiles : t.profiles = s.profiles
  cache : t.cache = s.cache
  queue : t.queue = s.queue
  committed : t.committed = s.committed
  settings : t.settings = s.settings
  mode : t.mode = s.mode
  straps : t.straps = s.straps
  flags : t.flags = s.flags
  enables : t.enables = s.enables
  counters : t.counters = s.counters
  snapshot : t.snapshot = s.snapshot
  inReset : t.inReset = s.inReset
  ties : t.ties = s.ties
  pending : t.pending = s.pending

/-- Everything but cage `k` and ALERT is as before. -/
structure OnlyCage (k : CageId) (s t : State) : Prop where
  others : ∀ j, j ≠ k → t.cage j = s.cage j
  groups : t.groups = s.groups
  device : SameDevice s t

/-- Everything of a cage but its request slot, the waiting for it, and the levels of its lines is as before. The levels follow
their rules (`State.LinesDriven`). -/
structure SameButSlot (c d : Cage) : Prop where
  ctx : d.ctx = c.ctx
  qual : d.qual = c.qual
  seq : d.seq = c.seq
  ops : d.ops = c.ops
  light : d.light = c.light
  ledger : d.ledger = c.ledger
  journal : d.journal = c.journal
  standing : d.standing = c.standing
  binding : d.binding = c.binding
  settings : d.settings = c.settings
  events : d.events = c.events
  control : d.control = c.control
  mrstOwner : d.lines.mrstOwner = c.lines.mrstOwner
  mlowOwner : d.lines.mlowOwner = c.lines.mlowOwner
  pulse : d.lines.pulse = c.lines.pulse

/-- Only the downstream bus of group `g` may have changed hands: its ports, its arbiter and the request slots of its cages;
everything else is as before. -/
structure BusOnly (g : GroupId) (s t : State) : Prop where
  cages : ∀ j, SameButSlot (s.cage j) (t.cage j)
  groups : ∀ h, h ≠ g → t.group h = s.group h
  device : SameDevice s t

/-- An event of cage `k` that, besides the cage itself, may only hand its group's downstream bus to another request or a waiting
host. -/
structure CageAndBus (k : CageId) (s t : State) : Prop where
  others : ∀ j, j ≠ k → SameButSlot (s.cage j) (t.cage j)
  groups : ∀ h, h ≠ groupOf k → t.group h = s.group h
  device : SameDevice s t

/-- The request of an agent of cage `k` waits for the slot, fills it, or is the burst that runs (R21, R22). -/
def State.Wants (s : State) (k : CageId) (a : Agent) (r : Request) : Prop :=
  (a, r) ∈ (s.cage k).slotQueue ∨ (s.cage k).slot = .requested a r ∨
    ∃ b, (s.group (groupOf k)).burst = some b ∧ b.cage = k ∧ b.agent = a ∧ b.request = r

/-- The burst `b` of cage `k` is over, and its report is for an operation still under way (R30). -/
structure State.Reports (s : State) (k : CageId) (b : Burst) : Prop where
  burst : (s.group (groupOf k)).burst = some b
  ended : b.phase = .ended
  free : (s.group (groupOf k)).down.stalled = false
  cage : b.cage = k
  awaited : b.orphan = false
  steady : b.spoiled = false
  judged : b.outcome.isSome = true
  restored : b.restoreFailed = none
  slot : (s.cage k).slot = .running

/-- The byte `x` of the burst `b` is on its group's bus, and `rest` are the bytes of its transfer after it. -/
structure State.SendsByte (s : State) (b : Burst) (x : DownByte) (rest : List DownByte) : Prop where
  owner : (s.group (groupOf b.cage)).owner = .burst b.cage
  burst : (s.group (groupOf b.cage)).burst = some b
  wait : (s.group (groupOf b.cage)).down.wait.isSome = true
  free : (s.group (groupOf b.cage)).down.stalled = false
  job : b.job.current = x :: rest

/-- A byte of a burst is over: the burst of cage `k` stands as `d`, the cage's belief is `bel`, and but for the downstream port
everything else is as before. -/
structure BurstGoesOn (k : CageId) (d : Burst) (bel : Option Belief) (s t : State) : Prop where
  others : ∀ j, j ≠ k → t.cage j = s.cage j
  cage : t.cage k = Cage.driveLines { s.cage k with ctx := { (s.cage k).ctx with belief := bel } }
  groups : ∀ h, h ≠ groupOf k → t.group h = s.group h
  group : t.group (groupOf k) =
    { s.group (groupOf k) with burst := some d, down := (t.group (groupOf k)).down }
  device : SameDevice s t

/-- R29: the restore that a burst makes of a host view, from the belief `start`: the select writes that differ from it, bank first, all
of them when it is UNKNOWN, and the pointer-setting write last. -/
def Burst.Restores (b d : Burst) (start : Option Belief) (v : Context) (second : Bool) : Prop :=
  d = { b with phase := .restore second, job := d.job } ∧ d.job.full = start.isNone ∧
    d.job.goal.page = v.modulePage ∧ d.job.goal.ptr = v.hostPtr ∧
    (b.bankSelect.isSome = true → d.job.goal.bank = v.shadowBank) ∧ d.job.cursor = 0#8 ∧
    d.job.bankSet = none ∧ d.job.pageSet = none ∧
    d.job.current :: d.job.later =
      (match b.bankSelect with
        | none => []
        | some o =>
          if start.map (·.bank) = some v.shadowBank then []
          else [[.addressWrite, .offset o, .data v.shadowBank]]) ++
        (if start.map (·.page) = some v.modulePage then []
          else [[.addressWrite, .offset b.pageSelect, .data v.modulePage]]) ++
        [[.addressWrite, .offset v.hostPtr]]

/-- Nobody waits for the bus of group `g`: no host, and no request in a slot of its cages. -/
def State.NobodyWaits (s : State) (g : GroupId) : Prop :=
  (s.group g).waiting = none ∧ ∀ n a r, (s.cage (cageAt g n)).slot ≠ .requested a r

/-- What an event leaves of a cage it does not address: a grant, a burst handed over or a reveal may reach the cage, but these
parts of it stand. -/
structure Untouched (c d : Cage) : Prop where
  qual : d.qual = c.qual
  journal : d.journal = c.journal
  standing : d.standing = c.standing
  binding : d.binding = c.binding
  settings : d.settings = c.settings
  control : d.control = c.control
  light : d.light = c.light
  baseline : d.seq.baseline = c.seq.baseline
  outcome : d.seq.outcome = c.seq.outcome
  declared : d.seq.declared = c.seq.declared
  counters : d.events.counters = c.events.counters
  mrstOwner : d.lines.mrstOwner = c.lines.mrstOwner
  mlowOwner : d.lines.mlowOwner = c.lines.mlowOwner
  pulse : d.lines.pulse = c.lines.pulse

/-! ## Recoveries and waits (R98, R100, R104, R113) -/

/-- R113: a recovery of cage `k` that began now would be concealed. -/
def State.Hides (s : State) (k : CageId) : Prop :=
  (s.cage k).seq.state = .serving ∧ s.mode = .recover ∧ (s.cage k).seq.baseline ≠ none ∧
    (s.cage k).settings.concealLimit ≠ 0 ∧ (s.cage k).seq.revealTimer = none

/-- R98, R113: from `s` a recovery of the kind has begun: its clock at 0, no hold reason, not DIM, and concealed with its conceal timer
started exactly where R113 says. -/
structure State.BeginsRecovery (s t : State) (k : CageId) (kind : RecoveryKind) : Prop where
  kind : (t.cage k).seq.recovery = some kind
  clock : (t.cage k).seq.clock = some 0
  hold : (t.cage k).seq.holdReason = .none
  dim : (t.cage k).seq.dim = false
  concealed : (t.cage k).seq.concealed = true ↔ s.Hides k
  hidden : s.Hides k →
    (t.cage k).seq.concealTimer =
      some { duration := (s.cage k).settings.concealLimit * 1000, elapsed := 0 }
  shown : ¬s.Hides k → (t.cage k).seq.concealTimer = none

/-- R100, R104, R127: a wait for the module has begun: with a ready indicator the timeout runs and the first poll is wanted, else the
boot delay runs. -/
structure State.WaitBegins (t : State) (k : CageId) (timeout delay : WaitKind) (seconds : Nat) : Prop where
  polled : (t.profileOf k).ready.present = true →
    (t.cage k).seq.waitTimer = some (timeout, { duration := seconds * 1000, elapsed := 0 }) ∧
      (t.cage k).ops.polling =
        some
          { mask := (t.profileOf k).ready.mask, value := (t.profileOf k).ready.value, timer := none } ∧
      t.Wants k .sequencer
        { purpose := .poll, target := { loc := (t.profileOf k).ready.loc, length := 1 }, data := none }
  delayed : (t.profileOf k).ready.present = false →
    (t.cage k).seq.waitTimer = some (delay, { duration := (t.profileOf k).bootDelay * 100, elapsed := 0 })

/-- R89, R100: MRST would be deasserted in BOOTING, and no reset pulse runs. -/
def Cage.MayBoot (c : Cage) : Prop :=
  c.lines.pulse = none ∧ (c.lines.mrstOwner = .engine ∨ c.lines.mrst = false)

/-- R100: the cage has gone to BOOTING, its lines as `s` has them: the boot wait begins, or awaits the release of MRST. -/
structure State.EntersBooting (s t : State) (k : CageId) : Prop where
  state : (t.cage k).seq.state = .booting
  begins : (s.cage k).MayBoot → t.WaitBegins k .bootTimeout .bootDelay s.settings.bootTimeout
  awaits : ¬(s.cage k).MayBoot → (t.cage k).seq.waitTimer = none ∧ (t.cage k).ops.polling = none

/-- R104: the cage has gone to RAMPING, and the ramp wait has begun. -/
structure State.EntersRamping (t : State) (k : CageId) : Prop where
  state : (t.cage k).seq.state = .ramping
  wait : t.WaitBegins k .rampTimeout .rampDelay t.settings.rampTimeout

/-! ## Replay (R105, R133, R134, R137) -/

/-- R134: every record PENDING at the positions `among` has nothing to write: every masked position is a select offset. -/
def Runless (p : Profile) (l : List Record) (among : Nat → Bool) : Prop :=
  ∀ m x, among m = true → l[m]? = some x → x.mark = .pending → runsOf p x = []

/-- R57: no record is the replay target, or none of the records at the positions `among` is PENDING. -/
def Journal.Free (j : Journal) (among : Nat → Bool) : Prop :=
  j.target = none ∨ ∀ m x, among m = true → j.list[m]? = some x → x.mark ≠ .pending

/-- R134, R137: the records PENDING at the positions `among` have finished. -/
def finished (l : List Record) (among : Nat → Bool) : List Record :=
  l.mapIdx fun m x => if among m = true ∧ x.mark = .pending then { x with mark := .applied } else x

/-- R137: the events of a cage with RECORDS_REPLAYED counted for each record PENDING at the positions `among`. -/
def Events.replayed (e : Events) (l : List Record) (among : Nat → Bool) : Events :=
  let n := (l.zipIdx.filter fun x => among x.2 && decide (x.1.mark = .pending)).length
  if n = 0 then e else { e with counters := e.counters.set 6 (min 65535 (e.counters[6] + n)) }

/-- R134: a region of a byte of the run, on the record's bank and page. -/
def Run.Touches (u : Run) (p : Profile) (key : Key) (r : Region) : Prop :=
  ∃ n : Fin 8, u.first ≤ n.val ∧ n.val < u.first + u.length ∧
    p.classify key.bank key.page (key.offset n.val) = some r

/-- R133 to R135: the cursor has come to record `r` at position `n` of the journal `j`, in the pass `passes`: the record is the target,
and the write of its first run, of `u :: us`, is wanted. -/
structure State.WritesRecord (t : State) (k : CageId) (j : Journal) (n : Nat) (r : Record) (u : Run) (us : List Run)
    (passes : Nat) (resumed : Bool) : Prop where
  journal : (t.cage k).journal = { j with target := some (n, false) }
  cursor : ∃ settle check failures,
    (t.cage k).ops.cursor =
        { position := some n, passes := passes, phase := .write, runs := u :: us, rewrites := 0,
          failures := failures, settle := settle, timer := none, carried := u.bytes r, check := check,
          resumed := resumed } ∧
      (check = true ↔ ∃ q, u.Touches (t.profileOf k) r.key q ∧ q.readBack = true) ∧
      (∀ q, u.Touches (t.profileOf k) r.key q → q.settle ≤ settle) ∧
      (settle = 0 ∨ ∃ q, u.Touches (t.profileOf k) r.key q ∧ q.settle = settle)
  wants : t.Wants k .sequencer
    { purpose := .replayWrite, target := u.target r.key, data := some (u.bytes r) }

/-- R105, R106, R165: replay has finished, the sequencer standing as `q` before: VERIFYING begins with its timeout, every lane dark and
the first sample wanted, where a lane is required, the kind is not FIRST and the replay was not resumed; else the serving check is
due. -/
structure State.ReplayFinishes (s t : State) (k : CageId) (q : Sequencer) (resumed : Bool) : Prop where
  idle : (t.cage k).ops.cursor.position = none ∧ (t.cage k).ops.cursor.passes = 0 ∧
    (t.cage k).ops.cursor.phase = .idle
  verify : (s.profileOf k).requiresAny = true → q.recovery ≠ some .first → resumed = false →
    (t.cage k).seq = { q with state := .verifying, verified := true } ∧
      (t.cage k).light.activity = .verify ∧
      (t.cage k).light.lightTimeout =
        some { duration := s.settings.lightTimeout * 1000, elapsed := 0 } ∧
      (∀ n : Fin 8, (t.cage k).light.lanes[n] =
        { lit := false, litRun := 0, darkRun := 0, band := (s.cage k).light.lanes[n].band }) ∧
      t.Wants k .monitor
        { purpose := .sample
          target := { loc := (s.profileOf k).lane.lane0.loc, length := 2 * (s.profileOf k).lanes }
          data := none }
  serve : (s.profileOf k).requiresAny = false ∨ q.recovery = some .first ∨ resumed = true →
    (t.cage k).seq = { q with serveCheck := true } ∧ (t.cage k).light = (s.cage k).light

/-- R133, R134, R137: the cursor goes on from position `i` of the journal `j` in the pass `passes`, the sequencer and the events standing
as `q` and `e`. It stops at the next record PENDING that has a run; with none up to the tail a new pass takes it back to the head; and
with none at all replay finishes. A record PENDING without a run finishes as the cursor passes it. -/
structure State.CursorGoesOn (s t : State) (k : CageId) (j : Journal) (e : Events) (q : Sequencer)
    (i passes : Nat) (resumed : Bool) : Prop where
  next : ∀ n r u us, let passed := fun m => decide (i ≤ m ∧ m < n)
    j.Free passed → i ≤ n → j.list[n]? = some r → r.mark = .pending → runsOf (s.profileOf k) r = u :: us →
    Runless (s.profileOf k) j.list passed →
    t.WritesRecord k { j with list := finished j.list passed } n r u us passes resumed ∧
      (t.cage k).seq = q ∧ (t.cage k).events = e.replayed j.list passed ∧
      (t.cage k).light = (s.cage k).light
  again : ∀ n r u us, let passed := fun m => decide (i ≤ m ∨ m < n)
    j.Free passed → n < i → j.list[n]? = some r → r.mark = .pending → runsOf (s.profileOf k) r = u :: us →
    Runless (s.profileOf k) j.list passed →
    t.WritesRecord k { j with list := finished j.list passed } n r u us (min 255 (passes + 1)) resumed ∧
      (t.cage k).seq = q ∧ (t.cage k).events = e.replayed j.list passed ∧
      (t.cage k).light = (s.cage k).light
  ends : let passed := fun _ => true
    j.Free passed → Runless (s.profileOf k) j.list passed →
    (t.cage k).journal = { j with list := finished j.list passed } ∧
      (t.cage k).events = e.replayed j.list passed ∧ s.ReplayFinishes t k q resumed

/-- R105, R133: replay has started on entry to REPLAYING, the sequencer standing as `q` and the events as `e`: a FIRST recovery has
nothing to write; an incomplete journal holds the cage, but for a FORCED recovery; else every mark is PENDING and pass 1 begins at the
head. -/
structure State.StartsReplay (s t : State) (k : CageId) (e : Events) (q : Sequencer) : Prop where
  first : q.recovery = some .first →
    (t.cage k).journal = (s.cage k).journal ∧ (t.cage k).events = e ∧ s.ReplayFinishes t k q false
  incomplete : q.recovery ≠ some .first → q.recovery ≠ some .forced → (s.cage k).journal.incomplete = true →
    (t.cage k).seq.state = .held ∧ (t.cage k).seq.holdReason = .journalIncomplete ∧
      (t.cage k).seq.recovery = none ∧
      (t.cage k).journal = { (s.cage k).journal with target := none }
  writes : q.recovery ≠ some .first → q.recovery = some .forced ∨ (s.cage k).journal.incomplete = false →
    s.CursorGoesOn t k
      { (s.cage k).journal with list := (s.cage k).journal.list.map fun r => { r with mark := .pending } }
      e q 0 1 false

/-! ## Identification's outcome (R101 to R103, R129) -/

/-- R61, R68, R73, R101 to R103, R129, R147 to R149, R151: identification has reached the outcome `o`, the wait queue being empty, with
the sequencer standing as `q` and the events as `e`, the bytes `got` in its slots and `held` for the cache. -/
structure State.ReachesOutcome (s t : State) (k : CageId) (q : Sequencer) (e : Events) (o : IdOutcome) (got : Baseline)
    (held : List CacheByte) : Prop where
  others : ∀ j, j ≠ k → Untouched (s.cage j) (t.cage j)
  groups : ∀ h, h ≠ groupOf k → t.group h = s.group h
  device : t.profiles = s.profiles ∧ t.settings = s.settings
  cache : t.cache =
    fillLines k held
      (if o = .same ∨ o = .unchecked then
        s.cache.map fun l => if l.owner = k then { l with state := .valid } else l
      else s.cache.filter fun l => decide (l.owner ≠ k))
  acts :
    let c := s.cage k
    let d := t.cage k
    let kin := (s.profileOf k).kin
    let frozen := o = .foreign ∨ (o = .kin ∧ kin = .hold)
    let taken := o = .first ∨ (o = .kin ∧ kin = .replay)
    let power := o = .first ∨ (s.mode = .recover ∧ ¬frozen)
    let wanted := match q.declared with
      | some n => (n.toNat * (100 + s.settings.margin) + 99) / 100
      | none => c.settings.ceiling
    let m := if wanted < s.settings.idleCharge then s.settings.idleCharge else wanted
    let found : Sequencer :=
      { q with outcome := o, identified := true, baseline := if taken then some got else q.baseline }
    let on : Sequencer :=
      if taken ∧ q.concealed = true then
        { found with
          concealed := false
          concealTimer := none
          revealTimer := some { duration := s.settings.revealMinimum * 10, elapsed := 0 } }
      else found
    let events : Events :=
      if taken ∧ q.concealed = true then { e with flags := e.flags ||| 8#9 } else e
    d.seq.outcome = o ∧ d.seq.declared = q.declared ∧ d.seq.baseline = found.baseline ∧
    d.standing = (if frozen then .unmatched else .matched) ∧
    d.journal.frozen = (if frozen then true else c.journal.frozen) ∧ d.ops.identification = none ∧
    (o ≠ .same → o ≠ .unchecked → d.seq.concealed = false) ∧
    (frozen → d.seq.state = .held ∧ d.seq.recovery = none ∧ d.ledger = c.ledger ∧
      d.journal.list = c.journal.list ∧ d.seq.holdReason = if o = .kin then .kin else .foreign) ∧
    (¬frozen → ¬power → d.seq.state = .held ∧ d.seq.holdReason = .learnOnly ∧ d.seq.recovery = none ∧
      d.seq.concealed = false ∧ d.ledger = c.ledger ∧ d.journal.list = c.journal.list) ∧
    (power → c.ledger.grant = true → t.EntersRamping k ∧
      d.seq = { on with state := .ramping, waitTimer := d.seq.waitTimer } ∧ d.events = events ∧
      d.ledger = c.ledger ∧ d.journal = c.journal ∧ t.committed = s.committed) ∧
    (power → c.ledger.grant = false → c.lines.mlowOwner = .host →
      d.ledger =
          { c.ledger with charge := m, computed := some m, overCeiling := decide (c.settings.ceiling < m) } ∧
        t.committed = s.committed - c.ledger.charge + m ∧ t.queue = [] ∧
        s.StartsReplay t k events { on with state := .replaying }) ∧
    (power → c.ledger.grant = false → c.lines.mlowOwner = .engine → c.settings.ceiling < m →
      d.seq.state = .held ∧ d.seq.holdReason = .overCeiling ∧ t.committed = s.committed ∧
        d.ledger = { c.ledger with computed := some m, overCeiling := true }) ∧
    (power → c.ledger.grant = false → c.lines.mlowOwner = .engine → m ≤ c.settings.ceiling →
      d.journal = c.journal ∧
      (s.committed + m ≤ s.settings.budget + c.ledger.charge →
        t.EntersRamping k ∧ d.seq = { on with state := .ramping, waitTimer := d.seq.waitTimer } ∧
        t.queue = [] ∧ t.committed = s.committed - c.ledger.charge + m ∧
        d.ledger = { charge := m, grant := true, computed := some m, overCeiling := false } ∧
        t.counters[0] = min 65535 (s.counters[0] + 1)) ∧
      (s.settings.budget + c.ledger.charge < s.committed + m →
        d.seq = { on with state := .admitting } ∧ t.committed = s.committed ∧
        t.queue = [{ cage := k, priority := c.settings.priority, passed := 0 }] ∧
        d.ledger = { c.ledger with computed := some m, overCeiling := false } ∧
        d.events.flags.getLsbD 8 = true ∧ t.counters = s.counters))

/-! ## What is due on an empty queue (assumption 4) -/

/-- A running timer has reached the duration it sampled when it started. -/
def Expired (y : Option Timer) : Prop := ∃ x, y = some x ∧ x.duration ≤ x.elapsed

/-- A timer 1 ms later; a stopped one stays stopped. -/
def later (y : Option Timer) : Option Timer := y.map fun x => { x with elapsed := x.elapsed + 1 }

/-- The event that a row stands for is due: a burst has ended, a timer has reached its duration in the phase or kind that makes
its expiry this row, or a serving check waits for no posted write. -/
def State.IsDue (s : State) : Instr → Prop
  | .burstEnd g =>
    (s.group g).down.stalled = false ∧
      ∃ b, (s.group g).burst = some b ∧ b.phase = .ended ∧ groupOf b.cage = g
  | .hostWaitExpiry g => ∃ w, (s.group g).waiting = some w ∧ w.timer.duration ≤ w.timer.elapsed
  | .moduleStall g => Expired (s.group g).down.wait
  | .retryIntervalExpiry k .sequencer => Expired (s.cage k).ops.retry
  | .retryIntervalExpiry k .monitor => ∃ x, (s.cage k).light.sample = some x ∧ Expired x.retry
  | .settleQualification k => (s.cage k).qual.phase = .settling ∧ Expired (s.cage k).qual.timer
  | .unacceptedRemoval k => (s.cage k).qual.phase = .settleDrop ∧ Expired (s.cage k).qual.timer
  | .qualifiedRemoval k => (s.cage k).qual.phase = .presentDrop ∧ Expired (s.cage k).qual.timer
  | .resetPulseEnd k => Expired (s.cage k).lines.pulse
  | .bootTimeout k => ∃ x, (s.cage k).seq.waitTimer = some (.bootTimeout, x) ∧ x.duration ≤ x.elapsed
  | .bootDelay k => ∃ x, (s.cage k).seq.waitTimer = some (.bootDelay, x) ∧ x.duration ≤ x.elapsed
  | .rampTimeout k => ∃ x, (s.cage k).seq.waitTimer = some (.rampTimeout, x) ∧ x.duration ≤ x.elapsed
  | .rampDelay k => ∃ x, (s.cage k).seq.waitTimer = some (.rampDelay, x) ∧ x.duration ≤ x.elapsed
  | .pollTimerExpiry k => ∃ x, (s.cage k).ops.polling = some x ∧ Expired x.timer
  | .settleWaitEnd k => Expired (s.cage k).ops.cursor.timer
  | .servingCheck k => (s.cage k).seq.serveCheck = true ∧ s.postedInFlight k = false
  | .concealTimerExpiry k => Expired (s.cage k).seq.concealTimer
  | .revealMinimumExpiry k => Expired (s.cage k).seq.revealTimer
  | .sampleTimerExpiry k => Expired (s.cage k).light.sampleTimer
  | .lightTimeout k => Expired (s.cage k).light.lightTimeout
  | .probeTimerExpiry k => Expired (s.cage k).seq.probeTimer
  | .start _ _ | .repeatedStart _ | .stop _ | .addressByte _ _ _ | .offsetByte _ _
  | .writeDataByte _ _ | .readDataByte _ _ | .moduleAnswer _ _ _ | .moduleReleasesDscl _
  | .abandoned _ => False
  | .rise _ | .dropDuringSettle _ | .bounce _ | .drop _ | .glitch _ | .mirqChange _ _ => False
  | .resume _ | .adopt _ | .forceReplay _ | .release _ | .moduleReset _ | .cageClear _
  | .bindProfile _ _ | .own _ _ _ | .line _ _ _ | .snapshotCage _ | .snapshotDevice _
  | .setMode _ _ | .unknownCommand _ _ => False
  | .flagClear _ _ _ | .enableWrite _ _ _ | .budgetWrite _ | .quotaWrite _ _
  | .selectOffsetWrite _ _ _ | .thresholdWrite _ _ _ | .windowSelectorWrite _ _ _
  | .profileFieldWrite _ _ _ | .settingWrite _ _ _ _ => False
  | .resetNAssertion | .startUp _ _ _ => False

/-! ## The arbiter's choice (R22) -/

/-- R25, R26: the select writes that bring a module from a belief to a bank and page, bank first: those that differ, and all the
profile has when the belief is UNKNOWN. -/
def Profile.neededSelects (p : Profile) (belief : Option Belief) (bank page : Byte) : List (List DownByte) :=
  (match p.bankSelect with
    | none => []
    | some o =>
      if belief.map (·.bank) = some bank then [] else [[.addressWrite, .offset o, .data bank]]) ++
    (if belief.map (·.page) = some page then []
      else [[.addressWrite, .offset p.pageSelect, .data page]])

/-- R7: the transfers of the resynchronisation that a host transfer needs before its address, none where it needs none: the selects
that differ from the host view, all of them when the belief is UNKNOWN, and for a read, where a select or the pointer differs, the write
of the host pointer last. -/
def Profile.neededResync (p : Profile) (x : Context) (read : Bool) : List (List DownByte) :=
  let selects := p.neededSelects x.belief x.shadowBank x.modulePage
  if read = true ∧ (selects ≠ [] ∨ x.belief.map (·.ptr) ≠ some x.hostPtr) then
    selects ++ [[.addressWrite, .offset x.hostPtr]]
  else selects

/-- R7, R13: a host's transfer as it goes downstream, under the profile and the context of its cage: from its address byte at once, or
from the first byte of a resynchronisation, whose end makes an UNKNOWN belief the host view. A foreign transfer needs none. -/
structure Transfer.GoesDown (x : Transfer) (p : Profile) (v : Context) : Prop where
  foreign : x.path = .foreign → x.hold = .address
  agrees : x.path = .forwarded → p.neededResync v x.read = [] → x.hold = .address
  differs : x.path = .forwarded → p.neededResync v x.read ≠ [] →
    ∃ j, x.hold = .resync j ∧ j.current :: j.later = p.neededResync v x.read ∧ j.full = v.belief.isNone ∧
      j.cursor = 0#8 ∧ j.bankSet = none ∧ j.pageSet = none ∧
      j.goal =
        { bank := if p.bankSelect = none then 0#8 else v.shadowBank
          page := v.modulePage
          ptr := if x.read then v.hostPtr else ptrNext p.pageSelect }

/-- R25 to R28: a burst as it begins, under the profile and the context of its cage: the select offsets it takes, its target page, and
its first transfers: the selects needed, else the data phase. -/
structure Burst.Begins (b : Burst) (p : Profile) (x : Context) : Prop where
  offsets : b.bankSelect = p.bankSelect ∧ b.pageSelect = p.pageSelect
  fresh : b.outcome = none ∧ b.restoreFailed = none ∧ b.acked = 0 ∧ b.received = [] ∧ b.orphan = false ∧
    b.spoiled = false ∧ b.aborting = false
  blind : b.blind = x.belief.isNone
  unsent : b.job.cursor = 0#8 ∧ b.job.bankSet = none ∧ b.job.pageSet = none
  page : b.page =
    if b.request.target.loc.area = .upper then b.request.target.loc.page else x.modulePage
  bank : b.bank =
    if p.bankSelect = none then 0#8
    else if b.request.target.loc.area = .upper then b.request.target.loc.bank else x.shadowBank
  selects : p.neededSelects x.belief b.bank b.page ≠ [] →
    b.phase = .select ∧ b.job.full = x.belief.isNone ∧
      b.job.current :: b.job.later = p.neededSelects x.belief b.bank b.page ∧
      b.job.goal = { bank := b.bank, page := b.page, ptr := ptrNext p.pageSelect }
  data : p.neededSelects x.belief b.bank b.page = [] →
    b.phase = .data ∧ b.job.full = false ∧ b.job.goal = { bank := b.bank, page := b.page, ptr := 0#8 } ∧
      b.job.current :: b.job.later =
        match b.request.data with
        | some bytes => [.addressWrite :: .offset b.request.target.loc.offset :: bytes.map .data]
        | none =>
          [[.addressWrite, .offset b.request.target.loc.offset],
            .addressRead :: List.replicate b.request.target.length .read]

/-- R22.2: slot `n` holds a request, and no slot that holds one comes before it in cyclic order from the slot after `last`. -/
def FirstRequest (slots : SlotId → Slot) (last n : SlotId) (a : Agent) (r : Request) : Prop :=
  slots n = .requested a r ∧
    ∀ m b q, slots m = .requested b q → (n - last - 1).val ≤ (m - last - 1).val

/-- R4, R7, R22.1: DN*g* has gone to the waiting host of cage `c`, whose transfer goes on from its address byte. -/
structure State.HandedToHost (t : State) (g : GroupId) (c : CageId) : Prop where
  owner : (t.group g).owner = .host c false
  waiting : (t.group g).waiting = none
  burst : (t.group g).burst = none
  goesOn : ∀ k x, t.current g = some (k, x) →
    (t.group g).down.selected = some k ∧
      (t.group g).down.wait = some { duration := t.settings.moduleWait, elapsed := 0 } ∧
      x.GoesDown (t.profileOf k) (t.cage k).ctx ∧
      (x.hold = .address → t.wire g = some (.address x.address x.read)) ∧
      (∀ j, x.hold = .resync j → t.wire g = some (.address t.straps.moduleAddress false))

/-- R22, R25: DN*g* has gone to the request `r` of agent `a` in slot `n`, whose burst begins. -/
structure State.HandedToBurst (t : State) (g : GroupId) (n : SlotId) (a : Agent) (r : Request) : Prop where
  owner : (t.group g).owner = .burst (cageAt g n)
  waiting : (t.group g).waiting = none
  lastServed : (t.group g).lastServed = n
  slot : (t.cage (cageAt g n)).slot = .running
  begins : ∃ b, (t.group g).burst = some b ∧ b.cage = cageAt g n ∧ b.agent = a ∧ b.request = r ∧
    b.Begins (t.profileOf (cageAt g n)) (t.cage (cageAt g n)).ctx
  selected : (t.group g).down.selected = some (cageAt g n)
  wait : (t.group g).down.wait = some { duration := t.settings.moduleWait, elapsed := 0 }
  wire : t.wire g = some (.address t.straps.moduleAddress false)

/-- R22: the owner has become IDLE, and the arbiter has chosen among the waiting host and the requests in `slots`: the host first, else
the first request after the slot last served, else nobody. Every slot not chosen stands. -/
structure State.Chooses (s t : State) (g : GroupId) (slots : SlotId → Slot) : Prop where
  host : ∀ w, (s.group g).waiting = some w →
    t.HandedToHost g w.cage ∧ (t.group g).lastServed = (s.group g).lastServed ∧
      ∀ m, (t.cage (cageAt g m)).slot = slots m
  request : ∀ n a r, (s.group g).waiting = none → FirstRequest slots (s.group g).lastServed n a r →
    t.HandedToBurst g n a r ∧ ∀ m, m ≠ n → (t.cage (cageAt g m)).slot = slots m
  nobody : (s.group g).waiting = none → (∀ n a r, slots n ≠ .requested a r) →
    (t.group g).owner = .idle ∧ (t.group g).waiting = none ∧ (t.group g).burst = none ∧
      (t.group g).down.selected = none ∧ (t.group g).down.wait = none ∧
      (t.group g).lastServed = (s.group g).lastServed ∧ ∀ m, (t.cage (cageAt g m)).slot = slots m

/-- R22: DN*g* has passed on: to a waiting host, to a request whose burst begins, or to nobody. -/
def State.PassedOn (t : State) (g : GroupId) : Prop :=
  (∃ c, t.HandedToHost g c) ∨ (∃ n a r, t.HandedToBurst g n a r) ∨
    ((t.group g).owner = .idle ∧ (t.group g).waiting = none ∧ (t.group g).burst = none ∧
      (t.group g).down.selected = none ∧ (t.group g).down.wait = none)

/-- R21: what a slot that has emptied holds next: the request of the agent that began waiting first, if one waits. -/
def nextInSlot (waiting : List (Agent × Request)) : Slot :=
  match waiting with
  | [] => .empty
  | (a, r) :: _ => .requested a r

/-- R24: a host transaction has given its bus back, if it held it: while the module stalls the bus stays with the ended transaction;
else the arbiter has chosen again. A bus that no host holds stands. -/
structure State.GivesBack (s t : State) (g : GroupId) : Prop where
  elsewhere : (∀ j e, (s.group g).owner ≠ .host j e) → t.group g = { s.group g with up := (t.group g).up }
  stalls : ∀ j e, (s.group g).owner = .host j e → (s.group g).down.stalled = true →
    t.group g = { s.group g with up := (t.group g).up, owner := .host j true }
  passes : ∀ j e, (s.group g).owner = .host j e → (s.group g).down.stalled = false →
    s.Chooses t g fun n => (s.cage (cageAt g n)).slot

/-! ## A cage that leaves SERVING or HELD (R9, R10, R23, R24) -/

/-- R9, R16 to R19: what the part itself answers to an address byte, by the path. -/
def Path.reply (p : Path) : UpAnswer :=
  if p = .concealed ∨ p = .uncovered ∨ p = .control then .ack else .nack

/-- R8, R9: the path that a cage outside SERVING and HELD gives the rest of a transfer, by its concealment and, for a read, by whether
its next byte lies on a control page. -/
def State.pathAway (t : State) (k : CageId) (x : Transfer) : Path :=
  let v := (t.cage k).ctx
  if x.path = .foreign ∨ x.path = .foreignRefused then .foreignRefused
  else if (t.cage k).seq.concealed = true then .concealed
  else if x.read = false then .uncovered
  else if 128 ≤ v.hostPtr.toNat ∧ (v.shadowPage = t.straps.ctrlPage ∨ v.shadowPage = t.straps.ctrlPage + 1#8) then .control
  else .refused

/-- The part without its waiting host, where that one waits for cage `k`. -/
def State.withoutWaiter (s : State) (k : CageId) : State :=
  s.onGroup (groupOf k) fun x => { x with waiting := x.waiting.filter fun w => decide (w.cage ≠ k) }

/-- R23: cage `k` has left SERVING or HELD; a host of it that waited for the bus waits no more, and its address byte is answered on the
path of the cage's new state. `gone`: its module was removed. -/
def State.AnswersWaiter (s t : State) (k : CageId) (gone : Bool) : Prop :=
  ∀ x w, let g := groupOf k
    s.current g = some (k, x) → x.hold = .bus → (s.group g).waiting = some w → w.cage = k → (s.group g).owner ≠ .idle →
      (t.group g).waiting = none ∧ (t.group g).up.answer = (t.pathAway k x).reply ∧
        t.current g =
          some (k,
            { x with path := t.pathAway k x, hold := .none, cut := none, moduleGone := x.moduleGone || gone })

/-- R10, R22, R24: cage `k` no longer holds its group's bus. A module that still stalls keeps it for the ended hold, unless it was
removed (`gone`); else the arbiter has chosen again: among the waiting host and the slots of the group, that of `k` empty or with the
request that the cage makes in its new state. `plain`: no later effect of the event reaches the bus. -/
structure State.YieldsBus (s t : State) (k : CageId) (gone : Bool) (plain : Prop) : Prop where
  stalls : gone = false → (s.group (groupOf k)).down.stalled = true →
    (t.group (groupOf k)).owner = .host k true ∧ (t.group (groupOf k)).down.stalled = true
  passes : gone = true ∨ (s.group (groupOf k)).down.stalled = false →
    (t.group (groupOf k)).down.stalled = false ∧ t.PassedOn (groupOf k)
  chooses : gone = true ∨ (s.group (groupOf k)).down.stalled = false → plain →
    ∃ mine, (mine = .empty ∨ ∃ a r, mine = .requested a r ∧ t.Wants k a r) ∧
      (s.withoutWaiter k).Chooses t (groupOf k) fun n =>
        if cageAt (groupOf k) n = k then mine else (s.cage (cageAt (groupOf k) n)).slot

/-- R4, R10, R14, R24: what becomes of a transfer of cage `k`, whose transaction holds the bus, when the cage leaves SERVING or HELD for the
state it has in `t`. At a byte boundary the part downstream ends, a KNOWN belief with the selects acknowledged, and the rest goes on on
the path of the new state, with the bus given back; an address byte held for a stalled module is answered on that path; a transfer that
needs no bus goes on; with a byte on the bus the cut is pending, and nothing else changes. That the cut waits for the byte on the bus, on
the path fixed now, is the model's reading (assumption 9), and so is that the rest of a stalled transfer goes on on the path of the new
state (assumption 22). `gone`: the module was removed. `lost`: MRST was asserted, so that a resynchronisation under way makes no belief
KNOWN (assumption 31). -/
structure State.CutsTransfer (s t : State) (k : CageId) (gone lost : Bool) (plain : Prop) : Prop where
  between : (s.group (groupOf k)).up.transaction = some { cage := some k, transfer := none } →
    (t.group (groupOf k)).up = (s.group (groupOf k)).up ∧ s.YieldsBus t k gone plain
  boundary : ∀ x, s.current (groupOf k) = some (k, x) → x.hold = .none → (x.path = .forwarded ∨ x.path = .foreign) →
    t.current (groupOf k) =
        some (k,
          { x with
            path := t.pathAway k x, cut := none, moduleGone := x.moduleGone || gone
            relay := if x.relay = .stalled then .live else x.relay
            bankSet := if x.relay = .live then none else x.bankSet
            pageSet := if x.relay = .live then none else x.pageSet }) ∧
      (t.group (groupOf k)).up.answer = (s.group (groupOf k)).up.answer ∧
      (x.read = true → x.relay = .live → (t.group (groupOf k)).down.lastAck = false) ∧
      (gone = false → lost = false →
        (t.cage k).ctx.belief =
          if x.relay = .live then
            (s.cage k).ctx.belief.map fun f =>
              { f with bank := x.bankSet.getD f.bank, page := x.pageSet.getD f.page }
          else (s.cage k).ctx.belief) ∧
      s.YieldsBus t k gone plain
  held : ∀ x, s.current (groupOf k) = some (k, x) → x.hold = .release →
    t.current (groupOf k) =
        some (k, { x with path := t.pathAway k x, hold := .none, cut := none, moduleGone := x.moduleGone || gone }) ∧
      (t.group (groupOf k)).up.answer = (t.pathAway k x).reply ∧ s.YieldsBus t k gone plain
  apart : ∀ x, s.current (groupOf k) = some (k, x) → x.hold = .none → x.path ≠ .forwarded → x.path ≠ .foreign →
    t.current (groupOf k) = some (k, { x with moduleGone := x.moduleGone || gone }) ∧
      (t.group (groupOf k)).up.answer = (s.group (groupOf k)).up.answer ∧ s.YieldsBus t k gone plain
  pending : ∀ x, s.current (groupOf k) = some (k, x) → x.hold ≠ .none → x.hold ≠ .bus → x.hold ≠ .release →
    (s.group (groupOf k)).down.stalled = false →
    t.current (groupOf k) =
        some (k,
          { x with
            cut := some (t.pathAway k x), moduleGone := x.moduleGone || gone
            hold :=
              match x.hold with
              | .resync j => .resync { j with full := j.full && !lost }
              | h => h }) ∧
      t.group (groupOf k) =
        { s.group (groupOf k) with
          up := { transaction := (t.group (groupOf k)).up.transaction, answer := (s.group (groupOf k)).up.answer } }

/-- R10, R23, R24: cage `k` has left SERVING or HELD: a host of it that waits is answered, and a transaction of it that holds the bus
loses it (`State.CutsTransfer`, with its assumptions 9, 22 and 31). -/
structure State.LeavesService (s t : State) (k : CageId) (gone lost : Bool) (plain : Prop) : Prop where
  waiter : s.AnswersWaiter t k gone
  transfer : (s.group (groupOf k)).owner = .host k false → (s.group (groupOf k)).waiting = none →
    (s.group (groupOf k)).burst = none → (s.cage k).slot ≠ .running → s.CutsTransfer t k gone lost plain

/-! ## The layout of the control pages (12.3, R183, R187) -/

/-- A number of named bits, bit 0 first. -/
def bitsIn : List Bool → Nat
  | [] => 0
  | b :: rest => (if b then 1 else 0) + 2 * bitsIn rest

/-- A number at two offsets, more significant byte first. -/
def pairAt (n x : Nat) : List (Nat × Nat) := [(n, x / 256), (n + 1, x % 256)]

/-- Numbers at offsets one after another. -/
def rowAt (n : Nat) (values : List Nat) : List (Nat × Nat) := values.mapIdx fun i v => (n + i, v)

def Bool.shown (b : Bool) : Nat := if b then 1 else 0

/-- The four fields of a location: area, bank, page, offset. -/
def Location.shown (l : Location) : List Nat :=
  [[Area.lower, .upper].idxOf l.area, l.bank.toNat, l.page.toNat, l.offset.toNat]

def OptLocation.shown (l : OptLocation) : List Nat := Bool.shown l.present :: l.loc.shown

def WriteClass.shown (c : WriteClass) : Nat := [WriteClass.retain, .sequence, .omitted, .reset].idxOf c

def ReadClass.shown (c : ReadClass) : Nat := [ReadClass.static, .live].idxOf c

/-- 12.3: the device area of the CTRL page, offset by offset. -/
def State.deviceArea (s : State) : List (Nat × Nat) :=
  let d := s.settings
  let flagged (k : CageId) : Bool := decide ((s.cage k).events.flags &&& (s.cage k).events.enables ≠ 0#9)
  rowAt 128
      [[Mode.recover, .learn].idxOf s.mode, s.straps.ctrlPage.toNat, s.straps.moduleAddress.toNat, s.flags.toNat,
        s.enables.toNat, bitsIn [false, decide (d.budget < s.committed)],
        bitsIn (List.ofFn fun n : Fin 8 => flagged ⟨8 + n.val, by omega⟩),
        bitsIn (List.ofFn fun n : Fin 8 => flagged ⟨n.val, by omega⟩)] ++
    pairAt 136 d.budget ++ rowAt 138 [d.idleCharge, d.margin, d.bypassLimit] ++ pairAt 141 s.committed ++
    [(143, s.queue.length)] ++ pairAt 144 (1024 - ∑ k : CageId, (s.cage k).journal.list.length) ++
    rowAt 146
      [d.retryInterval, d.retryLimit, d.hostWait, d.moduleWait, d.removalQualify, d.settleBase, d.bounceLimit,
        d.resetPulse, d.bootTimeout, d.rampTimeout, d.revealMinimum, d.readyPoll, d.readBackRetry,
        d.probePeriod, d.lightPoll, d.monitorPeriod, d.lightTimeout]

/-- 12.3: the cage area of the CTRL page, offset by offset. -/
def State.cageArea (s : State) (k : CageId) : List (Nat × Nat) :=
  let c := s.cage k
  let q := c.seq
  let qualified : Bool := decide (c.qual.phase = .present ∨ c.qual.phase = .presentDrop)
  rowAt 176
      [[SeqState.vacant, .settling, .booting, .identifying, .admitting, .ramping, .replaying, .verifying,
          .serving, .held].idxOf q.state,
        [none, some RecoveryKind.first, some .reseat, some .silent, some .moduleReset, some .resume,
          some .forced].idxOf q.recovery,
        [HoldReason.none, .bootTimeout, .identityUnread, .kin, .foreign, .learnOnly, .overCeiling, .rampTimeout,
          .journalIncomplete, .replayMismatch, .moduleUnresponsive].idxOf q.holdReason,
        [IdOutcome.none, .first, .same, .unchecked, .kin, .foreign, .unread].idxOf q.outcome,
        bitsIn
          [q.concealed, c.journal.incomplete, c.journal.frozen, q.dim, c.qual.unstable, c.ledger.grant,
            c.ledger.overCeiling, q.baseline.isSome],
        c.binding.val, c.qual.bounces, c.events.flags.toNat % 256, c.events.flags.toNat / 256,
        c.events.enables.toNat % 256, c.events.enables.toNat / 256,
        bitsIn [qualified, false, false, false, q.dim]] ++
    pairAt 188 c.ledger.charge ++ pairAt 190 (c.ledger.computed.getD 0) ++
    rowAt 192
      [c.settings.ceiling, c.settings.priority,
        match s.queue.find? fun e => decide (e.cage = k) with
        | none => 0
        | some e => e.passed,
        c.settings.concealLimit, c.journal.quota,
        if c.journal.list.length < 255 then c.journal.list.length else 255,
        match c.ops.cursor.position with
        | none => 255
        | some i => i,
        c.ops.cursor.passes, bitsIn [decide (c.lines.mrstOwner = .host), decide (c.lines.mlowOwner = .host)],
        bitsIn
          [c.lines.mrst, c.lines.mlow, c.lines.hpd, c.lines.hirq, c.qual.present, c.qual.interrupt],
        bitsIn (c.light.lanes.toList.map (·.lit))] ++
    rowAt 203 (c.light.lanes.toList.map (·.band))

/-- R186: the effective window index. -/
def Cage.indexShown (c : Cage) : Nat :=
  let last :=
    match c.control.windowKind with
    | 0 => c.journal.list.length - 1
    | 1 => 3
    | 2 => 63
    | 3 => 15
    | 4 => 15
    | 5 => 3
    | _ => 0
  if c.control.windowIndex.toNat < last then c.control.windowIndex.toNat else last

/-- 12.3: the CTRL page of cage `k`, offset by offset; an offset not listed is unassigned. -/
def State.ctrlLayout (s : State) (k : CageId) : List (Nat × Nat) :=
  let w := (s.cage k).control
  s.deviceArea ++ s.cageArea k ++
    rowAt 232
      [w.arg0.toNat, w.arg1.toNat, w.command.toNat, w.result.toNat, w.windowKind, w.windowIndex.toNat,
        (s.cage k).indexShown]

/-- R187, kind 0: a journal record. -/
def Record.layout (r : Record) : List (Nat × Nat) :=
  rowAt 129
      (match r.key with
      | .lower block => [0, 0, 0, block.val]
      | .upper bank page block => [1, bank.toNat, page.toNat, block.val]) ++
    rowAt 133
      [[RecordClass.retain, .sequence].idxOf r.cls, bitsIn (r.cells.toList.map (·.isSome)),
        [Mark.pending, .applied, .failed].idxOf r.mark] ++
    rowAt 136 (r.cells.toList.map fun v => (v.getD 0#8).toNat)

/-- R187, kind 1: a profile header. -/
def Profile.headerLayout (p : Profile) : List (Nat × Nat) :=
  rowAt 128
      [p.pageSelect.toNat, (p.bankSelect.getD 255#8).toNat, p.writeDefault.shown, p.readDefault.shown,
        [KinPolicy.hold, .replay].idxOf p.kin, p.bootDelay] ++
    rowAt 134
      (Bool.shown p.ready.present :: p.ready.loc.shown ++ [p.ready.mask.toNat, p.ready.value.toNat]) ++
    rowAt 141 p.power.shown ++ rowAt 146 p.probe.shown ++ [(151, p.lane.count)] ++
    rowAt 152 p.lane.lane0.shown ++ [(157, p.lane.required.toNat)] ++ pairAt 158 p.lane.lit ++
    pairAt 160 p.lane.dark ++ rowAt 162 [p.lane.litCount, p.lane.darkCount]

/-- R187, kind 2: a region entry. -/
def RegionEntry.layout (e : RegionEntry) : List (Nat × Nat) :=
  rowAt 128
    [Bool.shown e.used, [Area.lower, .upper].idxOf e.area, bitsIn [e.bankAny, e.pageAny], e.bank.toNat,
      e.page.toNat, e.first.toNat, e.last.toNat, e.writeClass.shown, e.readClass.shown,
      Bool.shown e.readBack, e.settle]

/-- R187, kinds 3 and 4: a span; only an identity span shows a role. -/
def Span.layout (x : Span) (identity : Bool) : List (Nat × Nat) :=
  rowAt 128 (Bool.shown x.used :: x.loc.shown ++ [x.length]) ++
    if identity then [(134, [Role.model, .unit].idxOf x.role)] else []

/-- R187, kind 5: a slot of a baseline that is present. -/
def slotLayout (x : Option BaselineSlot) : List (Nat × Nat) :=
  (128, 1) ::
    match x with
    | none => []
    | some y =>
      [(129, 1 + [Role.model, .unit].idxOf y.role), (130, y.bytes.length)] ++
        rowAt 132 ((y.bytes.take 32).map (·.toNat))

/-- R187, kind 6: the snapshot record of a cage, then that of the device. -/
def snapshotLayout (c : CageSnapshot) (d : DeviceSnapshot) : List (Nat × Nat) :=
  (128, Bool.shown c.taken) ::
    ((c.counters.toList ++ [c.lastAbsence, c.lastRecovery]).mapIdx fun i x => pairAt (129 + 2 * i) x).flatten ++
    (175, Bool.shown d.taken) :: (d.counters.toList.mapIdx fun i x => pairAt (176 + 2 * i) x).flatten

/-- R186, R187: the WINDOW page of cage `k`, offset by offset; an offset not listed is unassigned. -/
def State.windowLayout (s : State) (k : CageId) : List (Nat × Nat) :=
  let c := s.cage k
  let i := c.indexShown
  match c.control.windowKind with
  | 0 => match c.journal.list[i]? with
    | none => [(128, 1)]
    | some r => r.layout
  | 1 => (s.profile (Fin.ofNat 4 i)).headerLayout
  | 2 => (s.profile (Fin.ofNat 4 (i / 16))).entries[Fin.ofNat 16 i].layout
  | 3 => (s.profile (Fin.ofNat 4 (i / 4))).idSpans[Fin.ofNat 4 i].layout true
  | 4 => (s.profile (Fin.ofNat 4 (i / 4))).prefetch[Fin.ofNat 4 i].layout false
  | 5 => match c.seq.baseline with
    | none => []
    | some b => slotLayout b[Fin.ofNat 4 i]
  | _ => snapshotLayout c.events.snapshot s.snapshot

/-! ## Changed select offsets (R7, R35) -/

/-- R7, R35: a group's busses after the select offsets of the cages `lost` have changed: a burst of such a cage keeps the offsets
it took and is to leave the belief UNKNOWN, and what it, or a resynchronisation, has written of the selects no longer counts
(assumption 31). -/
def Group.loseSelects (x : Group) (lost : CageId → Bool) : Group :=
  { x with
    burst := x.burst.map fun b =>
      if lost b.cage then { b with spoiled := true, job := { b.job with full := false } } else b
    up :=
      { x.up with
        transaction := x.up.transaction.map fun y =>
          match y with
          | { cage := some k, transfer := some z } =>
            match z.hold with
            | .resync j =>
              if lost k then
                { cage := some k, transfer := some { z with hold := .resync { j with full := false } } }
              else y
            | _ => y
          | _ => y } }

end Sys2Proof.Machine
end

