-- ==== Sys2Proof/WellFormed.lean ====
section
/-! DEFINITION. The operand checks of a command that its type does not already make. -/

namespace Sys2Proof

/-- The command codes of R188's table: 0x01 to 0x0B. -/
def commandCodeKnown (code : Byte) : Bool :=
  decide (1 ≤ code.toNat) && decide (code.toNat ≤ 11)

/-- Offsets of the CTRL page whose writes are rows of their own: the W1C flag bytes and enables,
the budget's less significant byte, the quota, the command byte and the window selector. -/
def ownRowOffset (offset : Byte) : Bool :=
  [131, 132, 137, 183, 184, 185, 186, 196, 234, 236, 237].contains offset.toNat

/-- A control-page byte lies in the upper area (R8). -/
def controlOffset (offset : Byte) : Bool := decide (128 ≤ offset.toNat)

/-- Well-formedness of a command's operands. Cages, groups, profiles and 7-bit addresses are kept
in range by their types. -/
def wellFormed : Instr → Bool
  | .unknownCommand _ code => !commandCodeKnown code
  | .profileFieldWrite _ offset _ => controlOffset offset
  | .settingWrite _ .ctrl offset _ => controlOffset offset && !ownRowOffset offset
  | .settingWrite _ .window offset _ => controlOffset offset
  | _ => true

end Sys2Proof
end

