-- ==== Sys2Proof/Certificates/Slice0/Obligations.lean ====
section
/-! DEFINITION. The statements for the provers, each from the numbered rules of the manual. -/

section

open Sys2Proof Sys2Proof.Machine

/-! ## The step -/

/-- The command at the front of the queue is the one that runs, with the queue's rest. -/
def Obligations.StepRunsTheFrontCommand : Prop :=
  ∀ (c : Instr) (rest : List Instr) (s : State),
    step { s with pending := c :: rest } = exec c { s with pending := rest }

/-- What a step does on an empty queue: an event that is due, else one tick of the 1 ms timebase; while RESET_N is asserted
nothing at all. Due are a burst that has ended, every timer that has reached its sampled duration, and a serving check with no posted
write in progress (`State.IsDue`). A tick adds 1 ms to every running timer, to the absence measurement (R87) and to the recovery
clock, and changes nothing else. That an empty queue does this, and which of several due events comes first, are the model's choice
(assumption 4). -/
def Obligations.EmptyQueueRunsTheTimebase : Prop :=
  ∀ s : State, s.pending = [] →
    (s.inReset = true → step s = .next s) ∧
    (s.inReset = false →
      ((∃ c, s.IsDue c) → ∃ c, s.IsDue c ∧ step s = exec c s) ∧
      ((∀ c, ¬s.IsDue c) → ∃ t, step s = .next t ∧ t.alert = s.alert ∧ SameDevice s t ∧
        (∀ g, let x := s.group g
          t.group g =
            { x with
              down := { x.down with wait := later x.down.wait }
              waiting :=
                x.waiting.map fun w => { w with timer := { w.timer with elapsed := w.timer.elapsed + 1 } } }) ∧
        ∀ k, let c := s.cage k
          t.cage k =
            { c with
              qual :=
                { c.qual with
                  timer := later c.qual.timer
                  absence := c.qual.absence.map fun n => min 65535 (n + 1) }
              lines := { c.lines with pulse := later c.lines.pulse }
              seq :=
                { c.seq with
                  clock := c.seq.clock.map fun n => min 6553599 (n + 1)
                  concealTimer := later c.seq.concealTimer
                  revealTimer := later c.seq.revealTimer
                  waitTimer := c.seq.waitTimer.map fun w => (w.1, { w.2 with elapsed := w.2.elapsed + 1 })
                  probeTimer := later c.seq.probeTimer }
              ops :=
                { c.ops with
                  polling := c.ops.polling.map fun p => { p with timer := later p.timer }
                  cursor := { c.ops.cursor with timer := later c.ops.cursor.timer }
                  retry := later c.ops.retry }
              light :=
                { c.light with
                  sampleTimer := later c.light.sampleTimer
                  lightTimeout := later c.light.lightTimeout
                  sample := c.light.sample.map fun x => { x with retry := later x.retry } } }))

/-- R182, R190, R191: START_UP samples the straps and gives every register its start-up value, whatever stood before;
RESET_N_ASSERTION gives every register its start-up value and keeps the straps; while RESET_N is asserted no command but these two
changes anything; and the sampled straps hold until the next START_UP. -/
def Obligations.ResetRowsStartThePart : Prop :=
  (∀ (s : State) (maddr mode : Bool) (cpage : BitVec 2),
    ∃ t, exec (.startUp maddr mode cpage) s = .next t ∧ t.AtStartUp ∧ t.inReset = false ∧
      t.straps = { maddr := maddr, mode := mode, cpage := cpage } ∧
      t.mode = (if mode then Mode.learn else Mode.recover) ∧ t.pending = s.pending ∧ t.ties = s.ties) ∧
    (∀ s : State, ∃ t, exec .resetNAssertion s = .next t ∧ t.AtStartUp ∧ t.inReset = true ∧
      t.straps = s.straps ∧ t.pending = s.pending ∧ t.ties = s.ties) ∧
    (∀ (s : State) (c : Instr), s.inReset = true → isReset c = false → exec c s = .next s) ∧
    ∀ (c : Instr) (s t : State), exec c s = .next t → (∀ a b d, c ≠ .startUp a b d) → t.straps = s.straps

/-- The state right after reset is a start-up state, with nothing waiting; the straps tied low are the model's choice
(assumption 1). -/
def Obligations.ResetMeetsEveryRelation : Prop :=
  State.reset.AtStartUp ∧ State.reset.inReset = false ∧ State.reset.pending = [] ∧
    State.reset.mode = .recover ∧ State.reset.LinesDriven ∧ State.reset.AlertFollows ∧
    State.reset.LedgerBalanced ∧ State.reset.CountersBounded ∧ State.reset.ThresholdsApart ∧
    State.reset.PoolBounded ∧ State.reset.CacheSound ∧ State.reset.QueueOrdered ∧
    State.reset.SettingsInRange

/-! ## What every step keeps -/

/-- R89, R94, R95, R145, R176, R177, R178: every step keeps the lines at their levels, ALERT at its condition, committed at
the sum of the charges, and every counter a 16-bit count, each from every state that has it. -/
def Obligations.StepKeepsOutputsLedgerAndCounters : Prop :=
  ∀ s t : State, step s = .next t →
    (s.LinesDriven → t.LinesDriven) ∧ (s.AlertFollows → t.AlertFollows) ∧
      (s.LedgerBalanced → t.LedgerBalanced) ∧ (s.CountersBounded → t.CountersBounded)

/-- R46, R66, R69, R71, R149, R150, R163, R185: every step keeps the journal pool within its size, the cache sound, the wait
queue in order, the thresholds apart and the settings in their ranges, each from every state that has it. -/
def Obligations.StepKeepsPoolsQueueAndSettings : Prop :=
  ∀ s t : State, step s = .next t →
    (s.PoolBounded → t.PoolBounded) ∧ (s.CacheSound → t.CacheSound) ∧ (s.QueueOrdered → t.QueueOrdered) ∧
      (s.ThresholdsApart → t.ThresholdsApart) ∧ (s.SettingsInRange → t.SettingsInRange)

/-- A command that addresses one cage leaves every other cage's module record alone: its presence, journal, baseline, cache
standing, binding, settings, light, counters and line owners. -/
def Obligations.AddressedCommandLeavesOtherCages : Prop :=
  ∀ (c : Instr) (k j : CageId) (s t : State), addressedCage c = some k → j ≠ k → exec c s = .next t →
    Untouched (s.cage j) (t.cage j)

/-! ## Numbers -/

/-- R1: the pointer from any offset, and where a run of bytes leaves it. -/
def Obligations.PointerStaysInItsArea : Prop :=
  (∀ o : Byte, (ptrNext o).toNat = if o.toNat = 255 then 128 else o.toNat + 1) ∧
    (∀ o : Byte, 128 ≤ o.toNat → 128 ≤ (ptrNext o).toNat) ∧
    (∀ (n : Nat) (o v : Byte), v ∈ offsetsFrom o n → 128 ≤ o.toNat → 128 ≤ v.toNat) ∧
    (∀ (n : Nat) (o : Byte), o.toNat + n ≤ 255 → (ptrNext^[n] o).toNat = o.toNat + n)

/-- R36, R37: a byte that is no select byte takes the settings of the first USED entry, in table order, that covers it, and
those of DEFAULT, with no read-back and no write-settle time, when none does. An entry covers a byte of its own area from its first
to its last offset; an UPPER one only on its bank and its page, where these are not ANY. -/
def Obligations.FirstCoveringEntryClassifies : Prop :=
  ∀ (p : Profile) (bank page o : Byte),
    (∀ e : RegionEntry, e.covers bank page o = true ↔
      e.used = true ∧ e.first.toNat ≤ o.toNat ∧ o.toNat ≤ e.last.toNat ∧
        ((e.area = .lower ∧ o.toNat < 128) ∨
          (e.area = .upper ∧ 128 ≤ o.toNat ∧ (e.bankAny = true ∨ e.bank = bank) ∧
            (e.pageAny = true ∨ e.page = page)))) ∧
    (o = p.pageSelect ∨ p.bankSelect = some o → p.classify bank page o = none) ∧
    (¬(o = p.pageSelect ∨ p.bankSelect = some o) →
      (∀ i : Fin 16, p.entries[i].covers bank page o = true →
        (∀ j : Fin 16, j < i → p.entries[j].covers bank page o = false) →
        p.classify bank page o =
          some
            { entry := some i, writeClass := p.entries[i].writeClass, readClass := p.entries[i].readClass,
              readBack := p.entries[i].readBack, settle := p.entries[i].settle }) ∧
      ((∀ i : Fin 16, p.entries[i].covers bank page o = false) →
        p.classify bank page o =
          some
            { entry := none, writeClass := p.writeDefault, readClass := p.readDefault, readBack := false,
              settle := 0 }))

/-- R147: the computed charge and the over-ceiling flag are worked out afresh, and nothing else of the part changes but that the
cage's lines and ALERT follow their rules. That the declared power is the one the cage's latest identification left, be it of a module
since removed, is the model's reading (assumption 34). -/
def Obligations.ComputedChargeFollowsTheDeclaration : Prop :=
  ∀ (s : State) (k : CageId),
    let q := match (s.cage k).seq.declared with
      | some p => (p.toNat * (100 + s.settings.margin) + 99) / 100
      | none => (s.cage k).settings.ceiling
    let x := if q < s.settings.idleCharge then s.settings.idleCharge else q
    (s.compute k).cage k =
        Cage.driveLines
          { s.cage k with
            ledger :=
              { (s.cage k).ledger with
                computed := some x, overCeiling := decide ((s.cage k).settings.ceiling < x) } } ∧
      OnlyCage k s (s.compute k)

/-! ## The upstream ports (chapter 1) -/

/-- R3: START on a port with no transaction open samples the selects: one asserted names the cage, none or several name none,
and several raise SELECT_CONFLICT. A START with a transaction still open ends it first as STOP does (assumption 6). -/
def Obligations.StartFixesTheCage : Prop :=
  ∀ (s : State) (g : GroupId) (selects : BitVec 4), s.inReset = false →
    ((s.group g).up.transaction ≠ none →
      ∃ u, exec (.stop g) s = .next u ∧ exec (.start g selects) s = exec (.start g selects) u) ∧
    ((s.group g).up.transaction = none →
      ∃ t c, exec (.start g selects) s = .next t ∧
        t.group g =
          { s.group g with
            up := { transaction := some { cage := c, transfer := none }, answer := .released } } ∧
        (∀ n : SlotId, selects = 1#4 <<< n.val →
          c = some (cageAt g n) ∧ t.flags = s.flags ∧ t.counters = s.counters) ∧
        (selects = 0#4 → c = none ∧ t.flags = s.flags ∧ t.counters = s.counters) ∧
        (selects ≠ 0#4 → (∀ n : SlotId, selects ≠ 1#4 <<< n.val) →
          c = none ∧ t.flags = s.flags ||| 1#3 ∧
            t.counters = s.counters.set 3 (min 65535 (s.counters[3] + 1))) ∧
        t.cages = s.cages ∧ (∀ h, h ≠ g → t.group h = s.group h) ∧
        SameDevice { s with flags := t.flags, counters := t.counters } t)

/-- R3, R6, R7, R10 to R12, R98, R100, R113: STOP and REPEATED_START end the transfer. The pending selects take effect; a write is
handed to the journal, its relayed part first and then its posted part, and a read to the cache while the cage is in service and its
module was not removed since; a reported RESET-class byte starts a MODULE_RESET recovery, concealed where R113 says so, in BOOTING with
its boot wait, and the transaction loses the bus. STOP gives the bus back, and the arbiter chooses again; while the module stalls the bus
stays with the ended transaction (R22, R24). REPEATED_START keeps it. A transaction that has no transfer in progress, or no cage, ends at
STOP in the same way, and goes on at REPEATED_START with its port released; no cage takes anything from it. -/
def Obligations.TransferEndTakesThePendingSelects : Prop :=
  ∀ (s : State) (g : GroupId) (i : Instr), s.inReset = false → (i = .stop g ∨ i = .repeatedStart g) →
    (∀ r, (s.group g).up.transaction = some r → r.cage = none ∨ r.transfer = none →
      ∃ t, exec i s = .next t ∧ BusOnly g s t ∧
        (i = .stop g → (t.group g).up = { transaction := none, answer := .released } ∧ s.GivesBack t g) ∧
        (i = .repeatedStart g → t.cages = s.cages ∧
          t.group g = { s.group g with up := { (s.group g).up with answer := .released } })) ∧
    ∀ k x, (s.group g).up.transaction = some { cage := some k, transfer := some x } → x.hold = .none →
    ∃ t, exec i s = .next t ∧
      (i = .stop g → (t.group g).up = { transaction := none, answer := .released }) ∧
      (i = .repeatedStart g →
        (t.group g).up =
          { transaction := some { cage := some k, transfer := none }, answer := .released }) ∧
      let c := s.cage k
      let d := t.cage k
      let w :=
        (s.takeWrite { cage := k, reached := true, bank := x.bank, page := x.page, bytes := x.relayed }).takeWrite
          { cage := k, reached := false, bank := x.bank, page := x.page, bytes := x.posted }
      d.ctx.shadowBank = c.ctx.pendingBank.getD c.ctx.shadowBank ∧
      d.ctx.shadowPage = c.ctx.pendingPage.getD c.ctx.shadowPage ∧
      (c.ctx.pendingPage = none → d.ctx.modulePage = c.ctx.modulePage) ∧
      (∀ p, c.ctx.pendingPage = some p →
        d.ctx.modulePage =
          if p = s.straps.ctrlPage ∨ p = s.straps.ctrlPage + 1#8 then c.ctx.modulePage else p) ∧
      d.ctx.pendingBank = none ∧ d.ctx.pendingPage = none ∧ d.ctx.hostPtr = c.ctx.hostPtr ∧
      (x.read = true → d.journal.list = c.journal.list) ∧
      (x.read = false → d.journal.list = (w.cage k).journal.list) ∧
      (x.resetSeen = true → (c.seq.state = .serving ∨ c.seq.state = .held) →
        s.BeginsRecovery t k .moduleReset ∧ s.EntersBooting t k ∧
          (g = groupOf k → (s.group g).owner = .host k false → (s.group g).waiting = none →
            (s.group g).burst = none → c.slot ≠ .running → s.YieldsBus t k false True)) ∧
      (x.resetSeen = false ∨ (c.seq.state ≠ .serving ∧ c.seq.state ≠ .held) →
        (∀ j, j ≠ k → SameButSlot (s.cage j) (t.cage j)) ∧ (∀ h, h ≠ g → t.group h = s.group h) ∧
        d.seq = c.seq ∧ d.qual = c.qual ∧ d.ledger = c.ledger ∧ d.light = c.light ∧ d.ops = c.ops ∧
        d.standing = c.standing ∧ d.binding = c.binding ∧ d.settings = c.settings ∧
        d.control = c.control ∧
        d.ctx.belief =
          (if (x.path = .forwarded ∨ x.path = .foreign) ∧ x.relay = .live then
            c.ctx.belief.map fun b => { b with bank := x.bankSet.getD b.bank, page := x.pageSet.getD b.page }
          else c.ctx.belief) ∧
        (i = .repeatedStart g → (∀ j, j ≠ k → t.cage j = s.cage j) ∧ d.slot = c.slot ∧
          t.group g = { s.group g with up := (t.group g).up }) ∧
        (i = .stop g → s.GivesBack t g) ∧
        (x.read = true → d.journal = c.journal ∧ d.events = c.events ∧
          SameDevice
            { s with
              cache :=
                if (c.seq.state = .serving ∨ c.seq.state = .held) ∧ x.moduleGone = false then
                  fillLines k x.readBytes s.cache
                else s.cache } t) ∧
        (x.read = false → d.journal = (w.cage k).journal ∧ d.events = (w.cage k).events ∧
          SameDevice { s with flags := w.flags } t))

/-- R1, R2, R4, R7, R8, R9, R13, R19, R23: ADDRESS_BYTE fixes the transfer's path by the cage's state, and the bank and page in effect.
A path that needs no bus is answered at once. A forwarded or foreign transfer takes an IDLE bus; a later one of a transaction that holds
the bus goes on at once, or is held at its address byte while its module still stalls; behind a burst, or behind an ended transaction
whose module still stalls, the host waits with the host-wait timer running. A forwarded transfer goes downstream at its address byte
where the belief is the host view (the bank and page, and for a read the pointer); else after a resynchronisation: the select writes
that differ, all of them when the belief is UNKNOWN, bank first, and for a read the write of the host pointer. The address and direction
that the host sent are kept with the transfer, and go downstream as they are; a resynchronisation before them goes to the module
address. A transaction without a cage is not acknowledged. -/
def Obligations.AddressByteFixesThePath : Prop :=
  ∀ (s : State) (g : GroupId) (address : BitVec 7) (read : Bool), s.inReset = false →
    (∀ y, (s.group g).up.transaction = some { cage := none, transfer := y } →
      ∃ t, exec (.addressByte g address read) s = .next t ∧ t.cages = s.cages ∧ SameDevice s t ∧
        (∀ h, h ≠ g → t.group h = s.group h) ∧
        t.group g = { s.group g with up := { (s.group g).up with answer := .nack } }) ∧
    ∀ k, (s.group g).up.transaction = some { cage := some k, transfer := none } →
      ∃ t x, exec (.addressByte g address read) s = .next t ∧ t.cages = s.cages ∧ SameDevice s t ∧
        (∀ h, h ≠ g → t.group h = s.group h) ∧
        (t.group g).up.transaction = some { cage := some k, transfer := some x } ∧
        x.address = address ∧ x.read = read ∧ x.offsetSeen = false ∧
        x.bank = (if (s.profileOf k).bankSelect = none then 0#8 else (s.cage k).ctx.shadowBank) ∧
        x.page = (s.cage k).ctx.shadowPage ∧ x.relayed = [] ∧ x.posted = [] ∧ x.readBytes = [] ∧
        x.moduleGone = false ∧
        let q := (s.cage k).seq
        let c := (s.cage k).ctx
        let serves := q.state = .serving ∨ q.state = .held
        let page :=
          128 ≤ c.hostPtr.toNat ∧
            (c.shadowPage = s.straps.ctrlPage ∨ c.shadowPage = s.straps.ctrlPage + 1#8)
        (address = s.straps.moduleAddress → serves → x.path = if read = true ∧ page then .control else .forwarded) ∧
        (address = s.straps.moduleAddress → ¬serves → q.concealed = true → x.path = .concealed) ∧
        (address = s.straps.moduleAddress → ¬serves → q.concealed = false → read = false →
          x.path = .uncovered) ∧
        (address = s.straps.moduleAddress → ¬serves → q.concealed = false → read = true →
          x.path = if page then .control else .refused) ∧
        (address ≠ s.straps.moduleAddress → serves → x.path = .foreign) ∧
        (address ≠ s.straps.moduleAddress → ¬serves → x.path = .foreignRefused) ∧
        (x.path = .concealed ∨ x.path = .uncovered ∨ x.path = .control →
          (t.group g).up.answer = .ack ∧ x.hold = .none ∧ (t.group g).owner = (s.group g).owner ∧
            (t.group g).down = (s.group g).down ∧ (t.group g).waiting = (s.group g).waiting) ∧
        (x.path = .refused ∨ x.path = .foreignRefused →
          (t.group g).up.answer = .nack ∧ x.hold = .none ∧ (t.group g).owner = (s.group g).owner ∧
            (t.group g).down = (s.group g).down ∧ (t.group g).waiting = (s.group g).waiting) ∧
        let goesOn :=
          (t.group g).waiting = (s.group g).waiting ∧
            (t.group g).down =
              { (s.group g).down with
                selected := some k
                wait := some { duration := s.settings.moduleWait, elapsed := 0 } } ∧
            x.GoesDown (s.profileOf k) c ∧
            (x.hold = .address → t.wire g = some (.address address read)) ∧
            (∀ j, x.hold = .resync j → t.wire g = some (.address s.straps.moduleAddress false))
        let waits :=
          x.hold = .bus ∧ (t.group g).owner = (s.group g).owner ∧ (t.group g).down = (s.group g).down ∧
            (t.group g).waiting =
              some { cage := k, timer := { duration := s.settings.hostWait, elapsed := 0 } }
        (x.path = .forwarded ∨ x.path = .foreign → (t.group g).up.answer = .released ∧
          (t.group g).burst = (s.group g).burst ∧ (t.group g).lastServed = (s.group g).lastServed ∧
          ((s.group g).owner = .idle → (t.group g).owner = .host k false ∧ goesOn) ∧
          (∀ b, (s.group g).owner = .burst b → waits) ∧
          (∀ b, (s.group g).owner = .host b true → waits) ∧
          (∀ b, (s.group g).owner = .host b false → (t.group g).owner = .host b false ∧
            ((s.group g).down.stalled = false → goesOn) ∧
            ((s.group g).down.stalled = true →
              x.hold = .release ∧ (t.group g).waiting = (s.group g).waiting ∧
                (t.group g).down = (s.group g).down)))

/-- R1: OFFSET_BYTE sets the host pointer of a module-address write, and is answered as the path answers, or relayed.
What becomes of a byte that is no longer relayed is read from the rules by inference (assumption 7), and so is the
pointer's move before the module's answer (assumption 18). -/
def Obligations.OffsetByteSetsThePointer : Prop :=
  ∀ (s : State) (g : GroupId) (k : CageId) (x : Transfer) (o : Byte), s.inReset = false →
    (s.group g).up.transaction = some { cage := some k, transfer := some x } → x.hold = .none →
    x.read = false → x.offsetSeen = false →
    ∃ t y, exec (.offsetByte g o) s = .next t ∧
      (∀ j, t.cage j =
        if j = k ∧ x.path ≠ .foreign ∧ x.path ≠ .foreignRefused then
          Cage.driveLines { s.cage k with ctx := { (s.cage k).ctx with hostPtr := o } }
        else s.cage j) ∧
      (∀ h, h ≠ g → t.group h = s.group h) ∧ SameDevice s t ∧
      (t.group g).up.transaction = some { cage := some k, transfer := some y } ∧
      (t.group g).owner = (s.group g).owner ∧ (t.group g).waiting = (s.group g).waiting ∧
      (t.group g).burst = (s.group g).burst ∧ (t.group g).down.selected = (s.group g).down.selected ∧
      ((x.path = .forwarded ∨ x.path = .foreign) ∧ x.relay = .live →
        y = { x with offsetSeen := true, hold := .offset o } ∧ (t.group g).up.answer = .released ∧
        (t.group g).down.wait = some { duration := s.settings.moduleWait, elapsed := 0 }) ∧
      (x.path = .concealed ∨ x.path = .uncovered ∨ x.path = .control →
        y = { x with offsetSeen := true } ∧ (t.group g).up.answer = .ack ∧
        (t.group g).down = (s.group g).down) ∧
      (x.path = .refused ∨ x.path = .foreignRefused ∨
          ((x.path = .forwarded ∨ x.path = .foreign) ∧ x.relay ≠ .live) →
        y = { x with offsetSeen := true } ∧ (t.group g).up.answer = .nack ∧
        (t.group g).down = (s.group g).down)

/-- R1, R2, R8, R11, R13, R14, R16, R18: WRITE_DATA_BYTE at the host pointer, where R8 does not divert it to a control page. The pointer of
a module-address transfer advances whatever answers. A concealed cage takes selects, holds retained and sequence bytes as posted, and
drops others counting them; a revealed one takes selects and refuses from its first other byte on; a control-page select is the part's
own on every path; a forwarded byte is relayed, and so is a foreign one, which moves no pointer. A byte after a stall, after an address
not acknowledged or after a control-page select is not acknowledged, nor is one of a refused transfer.
That the pointer moves before the module's answer is read from the rules by inference (assumption 18), and so is what becomes of a
byte that is no longer relayed where R11 and R14 do not say it (assumption 7). -/
def Obligations.WrittenByteFollowsThePath : Prop :=
  ∀ (s : State) (g : GroupId) (k : CageId) (x : Transfer) (v : Byte), s.inReset = false →
    (s.group g).up.transaction = some { cage := some k, transfer := some x } → x.hold = .none →
    x.read = false → x.offsetSeen = true →
    let o := (s.cage k).ctx.hostPtr
    let p := s.profileOf k
    let moved := { (s.cage k).ctx with hostPtr := ptrNext o }
    let control (n : Byte) := n = s.straps.ctrlPage ∨ n = s.straps.ctrlPage + 1#8
    let ordinary := ¬(o = p.pageSelect ∧ control v)
    let alien := x.path = .foreign ∨ x.path = .foreignRefused
    let sent (t : State) :=
      (t.group g).up.answer = .released ∧
        (t.group g).down =
          { (s.group g).down with wait := some { duration := s.settings.moduleWait, elapsed := 0 } }
    (128 ≤ o.toNat → control x.page →
      alien ∨ x.path = .refused ∨ x.relay = .nacked ∨ x.relay = .stalled) →
    ∃ t, exec (.writeDataByte g v) s = .next t ∧ (∀ h, h ≠ g → t.group h = s.group h) ∧
      (∀ j, j ≠ k → t.cage j = s.cage j) ∧ SameDevice s t ∧
      t.group g = { s.group g with up := (t.group g).up, down := (t.group g).down } ∧
      SameButSlot { s.cage k with ctx := (t.cage k).ctx, events := (t.cage k).events } (t.cage k) ∧
      (t.cage k).events.flags = (s.cage k).events.flags ∧
      (x.path ≠ .forwarded → x.path ≠ .foreign → (t.group g).down = (s.group g).down) ∧
      (x.path ≠ .concealed → (t.cage k).events = (s.cage k).events) ∧
      (x.path = .refused ∨ x.path = .foreignRefused ∨ x.relay ≠ .live ∨ (x.path = .control ∧ ordinary) →
        (t.group g).up.answer = .nack ∧ (t.group g).down = (s.group g).down ∧ t.current g = some (k, x) ∧
        (t.cage k).events = (s.cage k).events ∧
        (t.cage k).ctx = if alien then (s.cage k).ctx else moved) ∧
      (x.path = .foreign → x.relay = .live →
        t.current g = some (k, { x with hold := .data o v }) ∧ (t.cage k).ctx = (s.cage k).ctx ∧ sent t) ∧
      (x.relay = .live → x.path = .concealed ∨ x.path = .uncovered ∨ x.path = .control → ¬ordinary →
        (t.cage k).ctx = { moved with pendingPage := some v } ∧ (t.group g).up.answer = .ack ∧
        t.current g = some (k, { x with relay := .afterSelect }) ∧ (t.cage k).events = (s.cage k).events) ∧
      (x.relay = .live → x.path = .concealed → ordinary → (t.group g).up.answer = .ack ∧
        (o = p.pageSelect → (t.cage k).ctx = { moved with pendingPage := some v } ∧
          t.current g = some (k, { x with gap := true }) ∧ (t.cage k).events = (s.cage k).events) ∧
        (o ≠ p.pageSelect → p.bankSelect = some o →
          (t.cage k).ctx = { moved with pendingBank := some v } ∧
          t.current g = some (k, { x with gap := true }) ∧
          (t.cage k).events = (s.cage k).events) ∧
        (∀ r, p.classify x.bank x.page o = some r → (t.cage k).ctx = moved ∧
          ((r.writeClass = .retain ∨ r.writeClass = .sequence) → (s.cage k).journal.frozen = false →
            t.current g =
              some (k,
                { x with
                  posted :=
                    x.posted ++
                      [{ offset := o, value := v, region := some r, acked := true, gap := x.gap }]
                  gap := false }) ∧
            (t.cage k).events =
              { (s.cage k).events with
                counters :=
                  (s.cage k).events.counters.set 7 (min 65535 ((s.cage k).events.counters[7] + 1)) }) ∧
          ((r.writeClass ≠ .retain ∧ r.writeClass ≠ .sequence) ∨ (s.cage k).journal.frozen = true →
            t.current g = some (k, { x with gap := true }) ∧
            (t.cage k).events =
              { (s.cage k).events with
                counters :=
                  (s.cage k).events.counters.set 8 (min 65535 ((s.cage k).events.counters[8] + 1)) }))) ∧
      (x.relay = .live → x.path = .uncovered → ordinary →
        (x.refusing = true ∨ (∃ r, p.classify x.bank x.page o = some r) →
          (t.group g).up.answer = .nack ∧ (t.cage k).ctx = moved ∧
          t.current g = some (k, { x with refusing := true })) ∧
        (x.refusing = false → o = p.pageSelect →
          (t.group g).up.answer = .ack ∧ (t.cage k).ctx = { moved with pendingPage := some v } ∧
          t.current g = some (k, x)) ∧
        (x.refusing = false → o ≠ p.pageSelect → p.bankSelect = some o →
          (t.group g).up.answer = .ack ∧ (t.cage k).ctx = { moved with pendingBank := some v } ∧
          t.current g = some (k, x))) ∧
      (x.relay = .live → x.path = .forwarded → ¬ordinary →
        (t.group g).up.answer = .ack ∧ (t.group g).down = { (s.group g).down with selected := none } ∧
        (t.cage k).ctx =
          { moved with
            pendingPage := some v
            belief :=
              moved.belief.map fun f =>
                { f with bank := x.bankSet.getD f.bank, page := x.pageSet.getD f.page } } ∧
        t.current g = some (k, { x with relay := .afterSelect, bankSet := none, pageSet := none })) ∧
      (x.relay = .live → x.path = .forwarded → ordinary →
        t.current g = some (k, { x with hold := .data o v }) ∧ (t.cage k).ctx = moved ∧ sent t)

/-- R1, R7, R8, R12, R13, R14, R17, R183, R184: READ_DATA_BYTE at the host pointer. A concealed cage answers from the selects, the
journal, the cache or 0xFF, in that order; a forwarded byte is asked of the module, and so is a foreign one, which moves no pointer. On
every path that answers, a control page answers with its byte, or with the captured one where this byte is the second of a two-byte
quantity whose first was the byte before; the first byte of such a quantity captures the second. A forwarded read that reaches a
control page ends downstream there. After a stall every byte is 0xFF, the pointer of a module-address transfer going on; a refused
read, and one whose address the module did not acknowledge, is answered by nothing.
The released bus of a read that is not answered, the foreign bytes after a stall and the pointer's move before the module's answer are
read from the rules by inference (assumptions 7 and 18). -/
def Obligations.ReadByteComesFromItsSource : Prop :=
  ∀ (s : State) (g : GroupId) (k : CageId) (x : Transfer) (more : Bool), s.inReset = false →
    (s.group g).up.transaction = some { cage := some k, transfer := some x } → x.hold = .none →
    x.read = true → x.ended = false →
    let o := (s.cage k).ctx.hostPtr
    let p := s.profileOf k
    let moved := { (s.cage k).ctx with hostPtr := ptrNext o }
    let control := s.straps.controlByte x.page o
    let heard := x.relay = .live ∨ x.relay = .afterSelect
    let asked (t : State) :=
      t.current g = some (k, { x with hold := .read o more }) ∧ (t.group g).up.answer = .released ∧
        (t.group g).down =
          { (s.group g).down with wait := some { duration := s.settings.moduleWait, elapsed := 0 } }
    ∃ t, exec (.readDataByte g more) s = .next t ∧ (∀ h, h ≠ g → t.group h = s.group h) ∧
      (∀ j, j ≠ k → t.cage j = s.cage j) ∧ SameDevice s t ∧
      t.group g = { s.group g with up := (t.group g).up, down := (t.group g).down } ∧
      SameButSlot { s.cage k with ctx := (t.cage k).ctx, events := (t.cage k).events } (t.cage k) ∧
      (t.cage k).events =
        { (s.cage k).events with counters := (t.cage k).events.counters } ∧
      (x.path ≠ .concealed → (t.cage k).events = (s.cage k).events) ∧
      (x.path ≠ .forwarded → x.path ≠ .foreign → (t.group g).down = (s.group g).down) ∧
      (x.path = .concealed → heard → control = none → (t.cage k).ctx = moved ∧
        t.current g = some (k, { x with ended := !more }) ∧
        (o = p.pageSelect → (t.group g).up.answer = .data (s.cage k).ctx.shadowPage ∧
          (t.cage k).events = (s.cage k).events) ∧
        (o ≠ p.pageSelect → p.bankSelect = some o →
          (t.group g).up.answer = .data (s.cage k).ctx.shadowBank ∧
          (t.cage k).events = (s.cage k).events) ∧
        (o ≠ p.pageSelect → p.bankSelect ≠ some o →
          (∀ v, (s.cage k).journal.retained (keyAt x.bank x.page o) (posOf o) = some v →
            (t.group g).up.answer = .data v ∧ (t.cage k).events = (s.cage k).events) ∧
          ((s.cage k).journal.retained (keyAt x.bank x.page o) (posOf o) = none →
            (∀ v, s.cachedByte k (keyAt x.bank x.page o) (posOf o) = some v →
              (t.group g).up.answer = .data v ∧ (t.cage k).events = (s.cage k).events) ∧
            (s.cachedByte k (keyAt x.bank x.page o) (posOf o) = none →
              (t.group g).up.answer = .data 255#8 ∧
              (t.cage k).events.counters =
                (s.cage k).events.counters.set 9 (min 65535 ((s.cage k).events.counters[9] + 1)))))) ∧
      (∀ q, x.path = .concealed ∨ x.path = .control ∨ x.path = .forwarded → heard → control = some q →
        let kind := (s.cage k).control.windowKind
        let ends := x.path = .forwarded ∧ x.relay = .live
        let first :=
          (q = .ctrl ∧ (o = 136#8 ∨ o = 141#8 ∨ o = 144#8 ∨ o = 188#8 ∨ o = 190#8)) ∨
          (q = .window ∧ kind = 1 ∧ (o = 158#8 ∨ o = 160#8)) ∨
          (q = .window ∧ kind = 6 ∧
            ((129 ≤ o.toNat ∧ o.toNat ≤ 173 ∧ o.toNat % 2 = 1) ∨
              (176 ≤ o.toNat ∧ o.toNat ≤ 182 ∧ o.toNat % 2 = 0)))
        (∀ v, x.capture = some (q, o, v) → (t.group g).up.answer = .data v) ∧
        ((∀ v, x.capture ≠ some (q, o, v)) → (t.group g).up.answer = .data (t.pageByte k q o)) ∧
        (t.cage k).events = (s.cage k).events ∧
        t.current g =
          some
            (k,
              { x with
                relay := .afterSelect
                ended := !more
                bankSet := if ends then none else x.bankSet
                pageSet := if ends then none else x.pageSet
                capture := if first then some (q, o + 1#8, t.pageByte k q (o + 1#8)) else none }) ∧
        (¬ends → (t.cage k).ctx = moved ∧ (t.group g).down = (s.group g).down) ∧
        (ends → (t.group g).down = { (s.group g).down with selected := none } ∧
          (t.cage k).ctx =
            { moved with
              belief :=
                moved.belief.map fun f =>
                  { f with bank := x.bankSet.getD f.bank, page := x.pageSet.getD f.page } })) ∧
      (x.path = .forwarded → x.relay = .live → control = none → (t.cage k).ctx = moved ∧ asked t) ∧
      (x.path = .foreign → x.relay = .live → (t.cage k).ctx = (s.cage k).ctx ∧ asked t) ∧
      (x.path = .concealed ∨ x.path = .control ∨ x.path = .forwarded ∨ x.path = .foreign →
        x.relay = .stalled →
        (t.cage k).ctx = (if x.path = .foreign then (s.cage k).ctx else moved) ∧
        (t.group g).up.answer = .data 255#8 ∧ (t.group g).down = (s.group g).down ∧
        (t.cage k).events = (s.cage k).events ∧ t.current g = some (k, { x with ended := !more })) ∧
      (x.path = .refused ∨ x.path = .foreignRefused ∨ x.path = .uncovered ∨ x.relay = .nacked →
        t.cages = s.cages ∧ (t.group g).up.answer = .released ∧ (t.group g).down = (s.group g).down ∧
        t.current g = some (k, x))

/-! ## Presence (chapter 6) -/

/-- R80, R83: RISE. -/
def Obligations.RiseBeginsAnInsertion : Prop :=
  ∀ (s : State) (k : CageId), s.inReset = false → (s.cage k).qual.phase = .absent →
    ∃ t, exec (.rise k) s = .next t ∧ OnlyCage k s t ∧
      t.cage k =
        Cage.driveLines
          { s.cage k with
            qual :=
              { phase := .settling, present := true, interrupt := (s.cage k).qual.interrupt,
                timer := some { duration := 10 * s.settings.settleBase, elapsed := 0 }, bounces := 0,
                unstable := false, absence := (s.cage k).qual.absence,
                absenceAtRise := (s.cage k).qual.absence }
            seq := { (s.cage k).seq with state := .settling } }

/-- R79, R82, R83, R85, R95: DROP_DURING_SETTLE, DROP and MIRQ_CHANGE; BOUNCE counts, lengthens the settle, and marks the insertion
unstable once. -/
def Obligations.DropsBouncesAndInterruptMoveTheQualifier : Prop :=
  ∀ (s : State) (k : CageId), s.inReset = false →
    let q := (s.cage k).qual
    (q.phase = .settling → ∃ t, exec (.dropDuringSettle k) s = .next t ∧ OnlyCage k s t ∧
      t.cage k =
        Cage.driveLines
          { s.cage k with
            qual :=
              { q with
                phase := .settleDrop
                present := false
                timer := some { duration := s.settings.removalQualify, elapsed := 0 } } }) ∧
    (q.phase = .present → ∃ t, exec (.drop k) s = .next t ∧ OnlyCage k s t ∧
      t.cage k =
        Cage.driveLines
          { s.cage k with
            qual :=
              { q with
                phase := .presentDrop
                present := false
                timer := some { duration := s.settings.removalQualify, elapsed := 0 } } }) ∧
    (∀ b : Bool, ∃ t, exec (.mirqChange k b) s = .next t ∧ OnlyCage k s t ∧
      t.cage k = Cage.driveLines { s.cage k with qual := { q with interrupt := b } } ∧
      ((t.cage k).lines.hirq = true ↔
        ((s.cage k).seq.state = .serving ∨ (s.cage k).seq.state = .held) ∧ b = true)) ∧
    let n := if q.bounces < 255 then q.bounces + 1 else 255
    let limit := s.settings.bounceLimit
    let e := if n ≤ limit then 0 else if n - limit < 3 then n - limit else 3
    let counted := (s.cage k).events.countN .bounces 1
    (q.phase = .settleDrop → q.bounces ≤ 255 →
    ∃ t, exec (.bounce k) s = .next t ∧ OnlyCage k s t ∧
      t.cage k =
        Cage.driveLines
          { s.cage k with
            qual :=
              { phase := .settling, present := true, interrupt := q.interrupt,
                timer := some { duration := 10 * s.settings.settleBase * 2 ^ e, elapsed := 0 }, bounces := n,
                unstable := q.unstable || decide (limit < n), absence := q.absence,
                absenceAtRise := if q.absence.isSome then q.absence else q.absenceAtRise }
            events :=
              if q.unstable = false ∧ limit < n then counted.latch .unstable else counted })

/-- R84: UNACCEPTED_REMOVAL ends the insertion without a settle, and a recovery under way goes on. -/
def Obligations.UnacceptedRemovalLeavesNoTrace : Prop :=
  ∀ (s : State) (k : CageId) (x : Timer), s.inReset = false → (s.cage k).qual.phase = .settleDrop →
    (s.cage k).qual.timer = some x →
    ∃ t, exec (.unacceptedRemoval k) s = .next t ∧ OnlyCage k s t ∧
      t.cage k =
        Cage.driveLines
          { s.cage k with
            qual :=
              { (s.cage k).qual with
                phase := .absent
                timer := none
                absence :=
                  match (s.cage k).qual.absence with
                  | none => some x.duration
                  | some n => some n }
            seq := { (s.cage k).seq with state := .vacant } }

/-- R81, R98 to R100, R113, R146: SETTLE_QUALIFICATION accepts the module: the cage goes to BOOTING with the idle charge, whatever
stood before, in a recovery that begins or goes on, and its boot wait begins, or awaits the release of MRST. -/
def Obligations.SettleQualificationBootsTheModule : Prop :=
  ∀ (s : State) (k : CageId), s.inReset = false → (s.cage k).qual.phase = .settling →
    ∃ t, exec (.settleQualification k) s = .next t ∧
      (∀ j, j ≠ k → SameButSlot (s.cage j) (t.cage j)) ∧ (∀ g, g ≠ groupOf k → t.group g = s.group g) ∧
      t.committed = s.committed - (s.cage k).ledger.charge + s.settings.idleCharge ∧
      t.profiles = s.profiles ∧ t.cache = s.cache ∧ t.queue = s.queue ∧ t.settings = s.settings ∧
      let c := s.cage k
      let d := t.cage k
      d.qual.phase = .present ∧ d.qual.timer = none ∧ d.qual.bounces = c.qual.bounces ∧
      d.qual.unstable = c.qual.unstable ∧
      (c.qual.absenceAtRise = none →
        d.events.lastAbsence = c.events.lastAbsence ∧ d.qual.absence = c.qual.absence) ∧
      (∀ n, c.qual.absenceAtRise = some n → d.events.lastAbsence = n ∧ d.qual.absence = none) ∧
      d.events.counters = c.events.counters.set 0 (min 65535 (c.events.counters[0] + 1)) ∧
      d.events.flags =
        c.events.flags ||| 1#9 ||| (if c.seq.recovery = none ∧ c.seq.dim = true then 16#9 else 0#9) ∧
      d.seq.state = .booting ∧
      (c.seq.waitTimer = none → c.ops.polling = none → s.EntersBooting t k) ∧
      d.seq.recovery = some (if c.seq.baseline.isSome then RecoveryKind.reseat else .first) ∧
      (c.seq.recovery = none →
        s.BeginsRecovery t k (if c.seq.baseline.isSome then .reseat else .first)) ∧
      (c.seq.recovery ≠ none →
        d.seq.clock = c.seq.clock ∧ d.seq.concealed = c.seq.concealed ∧
          d.seq.concealTimer = c.seq.concealTimer ∧ d.seq.dim = c.seq.dim) ∧
      d.ledger.charge = s.settings.idleCharge ∧ d.ledger.grant = false ∧
      d.seq.baseline = c.seq.baseline ∧ d.seq.outcome = c.seq.outcome ∧ d.journal = c.journal ∧
      d.standing = c.standing ∧ d.binding = c.binding ∧ d.settings = c.settings ∧
      d.control = c.control ∧ d.ctx = c.ctx ∧ d.light = c.light

/-- R10, R85, R100, R110 to R113, R140, R142: GLITCH counts in every state. In HELD, and in SERVING while a glitch probe runs or waits, it
only raises GLITCH; in a recovery past its settle it takes the cage back to BOOTING and its boot wait, with its recovery, charge, grant
and concealment, out of the wait queue. In SERVING without a usable probe location it starts a SILENT recovery, concealed where R113 says
so, and a host of the cage loses the bus; with one it starts a glitch probe at once, also in the place of a periodic probe whose burst
does not run: with an expected byte the probe's read is asked for, and without one the probe is lost, which is a SILENT recovery too. A
periodic probe whose burst runs ends, and the glitch probe waits for the burst's report; during a capture it waits for the capture. Which
row comes first where two apply is the model's reading (assumption 11), and so is how a transfer of that host is cut
(`State.LeavesService`, assumptions 9 and 22). -/
def Obligations.GlitchIsJudgedByTheState : Prop :=
  ∀ (s : State) (k : CageId), s.inReset = false → (s.cage k).qual.phase = .presentDrop →
    let c := s.cage k
    let q : Qualifier := { c.qual with phase := .present, present := true, timer := none }
    let counted := c.events.counters.set 3 (min 65535 (c.events.counters[3] + 1))
    let events := { c.events with counters := counted, flags := c.events.flags ||| 64#9 }
    let probing (glitch : Bool) := ∃ x, c.ops.probe = some x ∧ x.glitch = glitch
    let reads (b : Burst) :=
      (s.group (groupOf k)).burst = some b ∧ b.cage = k ∧ b.agent = .sequencer ∧ b.orphan = false
    let atOnce := c.ops.probe = none ∧ c.ops.capture = none ∨ probing false ∧ ∀ b, ¬reads b
    let silent :=
      ∃ t, exec (.glitch k) s = .next t ∧ CageAndBus k s t ∧ (t.cage k).qual = q ∧
        s.EntersBooting t k ∧ s.BeginsRecovery t k .silent ∧
        (t.cage k).seq.baseline = c.seq.baseline ∧ (t.cage k).ledger = c.ledger ∧
        (t.cage k).journal = { c.journal with target := none } ∧
        (t.cage k).events.counters = counted ∧ (t.cage k).events.flags.getLsbD 6 = true ∧
        s.LeavesService t k false false True
    (c.seq.state = .held ∨ (c.seq.state = .serving ∧ (c.ops.glitchWait ≠ none ∨ probing true)) →
      ∃ t, exec (.glitch k) s = .next t ∧ OnlyCage k s t ∧
        t.cage k = Cage.driveLines { c with qual := q, events := events }) ∧
    (c.seq.state.recovering = true → c.seq.state ≠ .admitting →
      ∃ t, exec (.glitch k) s = .next t ∧ CageAndBus k s t ∧ (t.cage k).qual = q ∧
        s.EntersBooting t k ∧ (t.cage k).seq.recovery = c.seq.recovery ∧
        (t.cage k).seq.clock = c.seq.clock ∧ (t.cage k).seq.concealed = c.seq.concealed ∧
        (t.cage k).seq.baseline = c.seq.baseline ∧ (t.cage k).ledger = c.ledger ∧
        (t.cage k).journal = { c.journal with target := none } ∧ (t.cage k).ctx = c.ctx ∧
        (t.cage k).light.activity = .idle ∧ (t.cage k).ops.identification = none ∧
        (t.cage k).ops.cursor.position = none ∧ (t.cage k).events.counters = counted ∧
        (t.cage k).events.flags = c.events.flags ||| 64#9) ∧
    (c.seq.state = .admitting → ∃ t, exec (.glitch k) s = .next t ∧
      (∀ j, j ≠ k → Untouched (s.cage j) (t.cage j)) ∧ (∀ e ∈ t.queue, e.cage ≠ k) ∧
      t.profiles = s.profiles ∧ t.settings = s.settings ∧ (t.cage k).qual = q ∧
      s.EntersBooting t k ∧ (t.cage k).seq.recovery = c.seq.recovery ∧
      (t.cage k).seq.concealed = c.seq.concealed ∧ (t.cage k).ledger = c.ledger ∧
      (t.cage k).events.counters = counted ∧ (t.cage k).events.flags = c.events.flags ||| 64#9) ∧
    (c.seq.state = .serving → c.ops.glitchWait = none → ¬probing true →
      ((s.profileOf k).usableProbe = none → silent) ∧
      ∀ l, (s.profileOf k).usableProbe = some l →
        (c.journal.expected l = none → atOnce → silent) ∧
        (∀ v, c.journal.expected l = some v → atOnce →
          ∃ t, exec (.glitch k) s = .next t ∧ CageAndBus k s t ∧ (t.cage k).qual = q ∧
            (t.cage k).seq = c.seq ∧ (t.cage k).journal = c.journal ∧ (t.cage k).ledger = c.ledger ∧
            (t.cage k).ops =
              { c.ops with
                probe := some { glitch := true, loc := l, failures := 0 }
                retry := if c.ops.probe.isSome then none else c.ops.retry } ∧
            t.Wants k .sequencer
              { purpose := .probe, target := { loc := l, length := 1 }, data := none } ∧
            (t.cage k).events = events) ∧
        (∀ b, probing false → reads b → (s.group (groupOf k)).owner = .burst k →
          ∃ t, exec (.glitch k) s = .next t ∧ CageAndBus k s t ∧ (t.cage k).qual = q ∧
            (t.cage k).seq = c.seq ∧ (t.cage k).journal = c.journal ∧ (t.cage k).ledger = c.ledger ∧
            (t.cage k).ops = { c.ops with probe := none, retry := none, glitchWait := some .report } ∧
            t.group (groupOf k) =
              { s.group (groupOf k) with burst := some { b with orphan := true } } ∧
            (t.cage k).events = events) ∧
        (c.ops.probe = none → c.ops.capture ≠ none →
          ∃ t, exec (.glitch k) s = .next t ∧ OnlyCage k s t ∧
            t.cage k =
              Cage.driveLines
                { c with qual := q, events := events, ops := { c.ops with glitchWait := some .capture } }))

/-- R10, R23, R24, R31, R69, R72, R86, R98, R109, R113, R146, R150, R153: QUALIFIED_REMOVAL empties the cage: VACANT, no charge and no
grant, its entry out of the wait queue, and its record and the cache standing kept for the module that comes back; from SERVING a recovery
begins, concealed where R113 says so. The charge returned makes a scan: another cage's waiting entry that now fits is granted, and
nothing is granted where none fits. Its STATIC lines become STALE under a MATCHED standing, and all its lines go under an UNMATCHED one; a
read in progress brings the cache nothing any more. A host of the cage that waits is answered on the new path, and its transaction that
holds the bus loses it, as `State.LeavesService` says (assumptions 9, 22). A burst with a byte on the bus is aborted, and ends when the
byte does; one with none is over, stalled or not, and so is the hold of an ended transaction whose module stalled: the pulled module no
longer holds the line. A bus that another cage holds stands. That an aborted burst keeps the bus for the byte that is on it, and that one
between its last STOP and its BURST_END is aborted like any other and counts nothing, are the model's readings (assumptions 9 and 29). -/
def Obligations.QualifiedRemovalVacatesTheCage : Prop :=
  ∀ (s : State) (k : CageId) (x : Timer), s.inReset = false → (s.cage k).qual.phase = .presentDrop →
    (s.cage k).qual.timer = some x →
    ∃ t, exec (.qualifiedRemoval k) s = .next t ∧ (∀ j, j ≠ k → Untouched (s.cage j) (t.cage j)) ∧
      (∀ e ∈ t.queue, e.cage ≠ k) ∧ t.profiles = s.profiles ∧ t.settings = s.settings ∧
      let c := s.cage k
      let d := t.cage k
      d.qual = { c.qual with phase := .absent, timer := none, absence := some x.duration } ∧
      d.seq.state = .vacant ∧ d.ledger.charge = 0 ∧ d.ledger.grant = false ∧
      d.ledger.overCeiling = false ∧ d.ledger.computed = c.ledger.computed ∧
      d.events.counters = c.events.counters.set 1 (min 65535 (c.events.counters[1] + 1)) ∧
      d.events.flags.getLsbD 0 = true ∧ d.lines.pulse = none ∧ d.light.activity = .idle ∧
      d.ctx.belief = none ∧ d.ctx.shadowPage = c.ctx.shadowPage ∧ d.ctx.hostPtr = c.ctx.hostPtr ∧
      d.journal = { c.journal with target := none } ∧ d.seq.baseline = c.seq.baseline ∧
      d.seq.outcome = c.seq.outcome ∧ d.standing = c.standing ∧ d.binding = c.binding ∧
      d.settings = c.settings ∧ d.control = c.control ∧
      (c.seq.state = .serving →
        s.BeginsRecovery t k (if c.seq.baseline.isSome then .reseat else .first)) ∧
      (c.seq.state ≠ .serving → d.seq.recovery = c.seq.recovery ∧ d.seq.clock = c.seq.clock ∧
        d.seq.concealed = c.seq.concealed) ∧
      (c.seq.state = .held → d.seq.holdReason = .none) ∧
      (let waiting := s.queue.filter fun e => decide (e.cage ≠ k)
        let left := s.committed - c.ledger.charge
        let charge (e : QueueEntry) := (s.cage e.cage).ledger.charge
        let wanted (e : QueueEntry) := (s.cage e.cage).ledger.computed.getD 0
        let fits (n : Nat) (e : QueueEntry) := n + wanted e ≤ s.settings.budget + charge e
        ((∀ e ∈ waiting, ¬fits left e) →
          t.queue = waiting ∧ t.committed = left ∧ t.counters = s.counters ∧
            ∀ j, j ≠ k → (t.cage j).ledger = (s.cage j).ledger ∧ (t.cage j).seq = (s.cage j).seq) ∧
        ∀ e rest, waiting = e :: rest → (∀ f ∈ rest, f.cage ≠ e.cage) → fits left e → charge e ≤ wanted e →
          (∀ f ∈ rest, ¬fits (left - charge e + wanted e) f) →
          t.queue = rest ∧ t.committed = left - charge e + wanted e ∧ t.EntersRamping e.cage ∧
            (t.cage e.cage).ledger = { (s.cage e.cage).ledger with charge := wanted e, grant := true } ∧
            t.counters[0] = min 65535 (s.counters[0] + 1) ∧ t.counters[1] = min 65535 s.counters[1] ∧
            ∀ j, j ≠ k → j ≠ e.cage →
              (t.cage j).ledger = (s.cage j).ledger ∧ (t.cage j).seq = (s.cage j).seq) ∧
      t.cache =
        (if c.standing = .matched then
          s.cache.map fun l => if l.owner = k ∧ l.kind = .static then { l with state := .stale } else l
        else s.cache.filter fun l => decide (l.owner ≠ k)) ∧
      (∀ y, s.current (groupOf k) = some (k, y) →
        ∃ z, t.current (groupOf k) = some (k, z) ∧ z.moduleGone = true ∧ z.readBytes = y.readBytes) ∧
      let x := s.group (groupOf k)
      let freed :=
        (t.group (groupOf k)).down.stalled = false ∧ t.PassedOn (groupOf k) ∧
          ((∀ e ∈ s.queue, e.cage = k) →
            (s.withoutWaiter k).Chooses t (groupOf k) fun n =>
              if cageAt (groupOf k) n = k then .empty else (s.cage (cageAt (groupOf k) n)).slot)
      s.LeavesService t k true false (∀ e ∈ s.queue, e.cage = k) ∧
      (x.owner = .host k true → x.down.stalled = true → c.slot ≠ .running → x.burst = none → freed) ∧
      (∀ b, x.owner = .burst k → x.burst = some b → b.cage = k →
        (x.down.wait = none → freed) ∧
        (x.down.wait.isSome = true →
          (t.group (groupOf k)).owner = .burst k ∧
            (t.group (groupOf k)).burst =
              some { b with outcome := some .aborted, orphan := true, aborting := true })) ∧
      (∀ j, j ≠ k → x.owner = .burst j ∨ (∃ e, x.owner = .host j e) → (∀ b, x.burst = some b → b.cage ≠ k) →
        (t.group (groupOf k)).owner = x.owner ∧ (t.group (groupOf k)).down = x.down ∧
          (t.group (groupOf k)).burst = x.burst)

/-! ## The sequencer's timers (chapters 7 and 8) -/

/-- R100, R104, R108: BOOT_TIMEOUT and RAMP_TIMEOUT enter HELD with their reasons: the operation and the recovery end, a
concealed recovery is revealed, HELD is raised and HOLDS counts. -/
def Obligations.TimeoutsHoldTheCage : Prop :=
  ∀ (s : State) (k : CageId) (x : Timer) (i : Instr) (w : WaitKind) (reason : HoldReason),
    s.inReset = false → (s.cage k).seq.waitTimer = some (w, x) →
    ((i = .bootTimeout k ∧ w = .bootTimeout ∧ reason = .bootTimeout) ∨
      (i = .rampTimeout k ∧ w = .rampTimeout ∧ reason = .rampTimeout)) →
    ∃ t, exec i s = .next t ∧ CageAndBus k s t ∧
      let c := s.cage k
      let d := t.cage k
      d.seq.state = .held ∧ d.seq.holdReason = reason ∧ d.seq.recovery = none ∧ d.seq.waitTimer = none ∧
      (∀ r n, c.seq.recovery = some r → c.seq.clock = some n →
        d.seq.clock = none ∧ d.events.lastRecovery = min 65535 (n / 100)) ∧
      (c.seq.recovery = none → d.events.lastRecovery = c.events.lastRecovery) ∧
      d.seq.concealed = false ∧
      (c.seq.concealed = true →
        d.seq.revealTimer = some { duration := s.settings.revealMinimum * 10, elapsed := 0 }) ∧
      d.events.counters = c.events.counters.set 5 (min 65535 (c.events.counters[5] + 1)) ∧
      d.events.flags = c.events.flags ||| 4#9 ||| (if c.seq.concealed then 8#9 else 0#9) ∧
      d.ops.polling = none ∧ d.light.activity = .idle ∧ d.seq.baseline = c.seq.baseline ∧
      d.ledger = c.ledger ∧ d.journal = { c.journal with target := none } ∧ d.qual = c.qual ∧
      d.ctx = c.ctx ∧ d.binding = c.binding ∧ d.settings = c.settings ∧ d.control = c.control

/-- R100 to R103, R128, R129: BOOT_DELAY ends the wait: the cage enters IDENTIFYING and asks for the first read of its profile. With no
read in the profile the outcome is reached at once: FIRST without a baseline, else UNCHECKED. -/
def Obligations.BootDelayBeginsIdentification : Prop :=
  ∀ (s : State) (k : CageId) (x : Timer), s.inReset = false →
    (s.cage k).seq.waitTimer = some (.bootDelay, x) →
    let c := s.cage k
    let q : Sequencer := { c.seq with waitTimer := none, declared := none }
    (∀ r rest, (s.profileOf k).idReads = r :: rest →
      ∃ t, exec (.bootDelay k) s = .next t ∧ CageAndBus k s t ∧
        let d := t.cage k
        d.seq = { q with state := .identifying } ∧
        (∃ y, d.ops = { c.ops with polling := none, identification := some y } ∧ y.todo = r :: rest ∧
          y.held = [] ∧ y.attempt = [] ∧ y.failures = 0 ∧ ∀ i : Fin 4, y.got[i] = none) ∧
        t.Wants k .sequencer r.request ∧ d.ledger = c.ledger ∧ d.journal = c.journal ∧
        d.events = c.events ∧ d.qual = c.qual ∧ d.light = c.light ∧ d.ctx = c.ctx ∧
        d.binding = c.binding ∧ d.control = c.control) ∧
    ((s.profileOf k).idReads = [] → s.queue = [] →
      ∃ t, exec (.bootDelay k) s = .next t ∧
        s.ReachesOutcome t k q c.events (if c.seq.baseline = none then .first else .unchecked)
          (Vector.replicate 4 none) [])

/-- R104 to R106, R133, R134, R137: RAMP_DELAY ends the wait and replay starts: a FIRST recovery has nothing to replay and goes on as a
replay that has finished; an incomplete journal holds the cage, but for a FORCED recovery; else every mark is PENDING and the cursor goes
from the head: the first record that has a run is the target and the write of that run is asked for, a record with none finishes as the
cursor passes it, and with nothing to write, an empty list included, replay finishes at once.
The serving check as a step of its own is read from the table by inference (assumption 14). That a recovery of another kind writes the
journal also after an outcome FIRST is the model's reading of R105 and R133 beside R102 (assumption 33). -/
def Obligations.RampDelayStartsReplay : Prop :=
  ∀ (s : State) (k : CageId) (x : Timer), s.inReset = false →
    (s.cage k).seq.waitTimer = some (.rampDelay, x) →
    let c := s.cage k
    ∃ t, exec (.rampDelay k) s = .next t ∧ CageAndBus k s t ∧
      s.StartsReplay t k c.events { c.seq with state := .replaying, waitTimer := none } ∧
      (t.cage k).ops.polling = none ∧
      let d := t.cage k
      SameButSlot
        { c with
          seq := d.seq, ops := d.ops, light := d.light, journal := d.journal, standing := d.standing
          events := d.events } d

/-! ## The downstream ports (chapters 1 and 2) -/

/-- R4, R7, R8, R11 to R13: MODULE_ANSWER completes the byte that a forwarded or foreign transfer has on the bus. The answer goes up as the
module gave it; for a forwarded transfer the belief follows the byte, and a data byte is kept for the hand-over. A read byte whose next
byte lies on a control page ends the transfer downstream: it is not acknowledged to the module, STOP deasserts DSEL, and the belief
takes the selects acknowledged. Nothing of a foreign transfer is followed or kept.
The split of a byte into the host's part and the module's answer is read from the rules by inference (assumption 18), and so are that
STOP goes downstream at once after a not-acknowledged address byte of a read (assumption 28), and that a foreign transfer is relayed on
after one (assumption 7). -/
def Obligations.ModuleAnswerCompletesTheByte : Prop :=
  ∀ (s : State) (g : GroupId) (k c : CageId) (x : Transfer) (y : Timer) (ack : Bool) (data : Byte),
    s.inReset = false → (s.group g).owner = .host c false → (s.group g).down.wait = some y →
    (s.group g).down.stalled = false →
    (s.group g).up.transaction = some { cage := some k, transfer := some x } →
    (x.path = .forwarded ∨ x.path = .foreign) → x.cut = none →
    (x.hold = .address ∨ (∃ o, x.hold = .offset o) ∨ (∃ o b, x.hold = .data o b) ∨
      ∃ o more, x.hold = .read o more) →
    let p := s.profileOf k
    let v := (s.cage k).ctx
    let alien := x.path = .foreign
    let told := if ack then UpAnswer.ack else .nack
    ∃ t z, exec (.moduleAnswer g ack data) s = .next t ∧ (∀ j, j ≠ k → t.cage j = s.cage j) ∧
      (∀ h, h ≠ g → t.group h = s.group h) ∧ SameDevice s t ∧
      SameButSlot { s.cage k with ctx := (t.cage k).ctx } (t.cage k) ∧
      (t.cage k).slot = (s.cage k).slot ∧ (t.cage k).slotQueue = (s.cage k).slotQueue ∧
      t.group g =
        { s.group g with
          up := (t.group g).up
          down :=
            { (s.group g).down with
              wait := none, selected := (t.group g).down.selected, lastAck := (t.group g).down.lastAck } } ∧
      t.current g = some (k, z) ∧
      ((∀ o more, x.hold ≠ .read o more) → (t.group g).up.answer = told ∧
        (t.group g).down.lastAck = (s.group g).down.lastAck) ∧
      (x.hold ≠ .address → (∀ o more, x.hold ≠ .read o more) →
        (t.group g).down.selected = (s.group g).down.selected) ∧
      (x.hold = .address → (t.cage k).ctx = v ∧
        (t.group g).down.selected = (if ack = true ∨ alien then (s.group g).down.selected else none) ∧
        z = { x with hold := .none, relay := if ack = true ∨ alien then x.relay else .nacked }) ∧
      (∀ o, x.hold = .offset o →
        (t.cage k).ctx =
          (if alien then v
          else { v with belief := if ack then v.belief.map fun b => { b with ptr := o } else none }) ∧
        z = { x with hold := .none }) ∧
      (∀ o b, x.hold = .data o b → alien → (t.cage k).ctx = v ∧ z = { x with hold := .none }) ∧
      (∀ o b, x.hold = .data o b → ¬alien →
        let r := p.classify x.bank x.page o
        let note : HandedByte := { offset := o, value := b, region := r, acked := ack, gap := false }
        let page := ack = true ∧ o = p.pageSelect
        let bank := ack = true ∧ o ≠ p.pageSelect ∧ p.bankSelect = some o
        (t.cage k).ctx =
          { v with
            belief := if ack then v.belief.map fun f => { f with ptr := ptrNext f.ptr } else none
            pendingPage := if page then some b else v.pendingPage
            pendingBank := if bank then some b else v.pendingBank } ∧
        z =
          { x with
            hold := .none
            relayed := x.relayed ++ [note]
            pageSet := if page then some b else x.pageSet
            bankSet := if bank then some b else x.bankSet
            resetSeen := z.resetSeen } ∧
        (z.resetSeen = true ↔
          x.resetSeen = true ∨ (ack = true ∧ ∃ q, r = some q ∧ q.writeClass = .reset))) ∧
      (∀ o more, x.hold = .read o more → alien →
        (t.cage k).ctx = v ∧ (t.group g).down.lastAck = more ∧ (t.group g).up.answer = .data data ∧
        (t.group g).down.selected = (s.group g).down.selected ∧
        z = { x with hold := .none, ended := !more }) ∧
      ∀ o more, x.hold = .read o more → ¬alien →
        let bel := v.belief.map fun f => { f with ptr := ptrNext f.ptr }
        let kept := x.readBytes ++ p.cacheBytes x.bank x.page o [data]
        let ends := more = true ∧ (s.straps.controlByte x.page v.hostPtr).isSome = true
        (t.group g).up.answer =
          .data
            (if o = p.pageSelect ∧
                (v.shadowPage = s.straps.ctrlPage ∨ v.shadowPage = s.straps.ctrlPage + 1#8) then
              v.shadowPage
            else data) ∧
        (¬ends → (t.cage k).ctx = { v with belief := bel } ∧ (t.group g).down.lastAck = more ∧
          (t.group g).down.selected = (s.group g).down.selected ∧
          z = { x with hold := .none, ended := !more, readBytes := kept }) ∧
        (ends → x.relay = .live →
          (t.cage k).ctx =
              { v with
                belief :=
                  bel.map fun f => { f with bank := x.bankSet.getD f.bank, page := x.pageSet.getD f.page } } ∧
            (t.group g).down.lastAck = false ∧ (t.group g).down.selected = none ∧
            z =
              { x with
                hold := .none, ended := false, readBytes := kept, relay := .afterSelect, bankSet := none
                pageSet := none })

/-- R5, R7, R14, R22, R24, R31: MODULE_STALL ends the host's byte and makes the belief UNKNOWN, counted once; the rest of the transfer
is not relayed. MODULE_RELEASES_DSCL ends the stall: STOP deasserts DSEL, and the transaction keeps the bus until its own STOP; a later
transfer of it, held at its address byte for the stall, goes downstream then, from its resynchronisation where the belief is not the
host view, as an UNKNOWN one is not. A bus held only for the stall, of an ended transaction or of an aborted burst, is freed, and the
arbiter chooses: the waiting host, else the first request after the slot last served, else nobody.
That a stall of a foreign transfer does the same is read from the rules by inference (assumption 7). -/
def Obligations.StallEndsTheByteAndTheReleaseTheStall : Prop :=
  ∀ (s : State) (g : GroupId) (k c : CageId), s.inReset = false →
    (∀ (x : Transfer) (y : Timer), (s.group g).owner = .host c false →
      (s.group g).down.wait = some y → (s.group g).down.stalled = false →
      (s.group g).up.transaction = some { cage := some k, transfer := some x } → x.cut = none →
      (x.hold = .address ∨ (∃ o, x.hold = .offset o) ∨ (∃ o b, x.hold = .data o b) ∨
        ∃ o more, x.hold = .read o more) →
      ∃ t z, exec (.moduleStall g) s = .next t ∧ (∀ j, j ≠ k → t.cage j = s.cage j) ∧
        (∀ h, h ≠ g → t.group h = s.group h) ∧ SameDevice s t ∧
        (t.cage k).ctx = { (s.cage k).ctx with belief := none } ∧
        (t.cage k).events.flags = (s.cage k).events.flags ∧
        (t.cage k).events.counters =
          (s.cage k).events.counters.set 12 (min 65535 ((s.cage k).events.counters[12] + 1)) ∧
        (t.cage k).seq = (s.cage k).seq ∧ (t.cage k).journal = (s.cage k).journal ∧
        (t.group g).owner = (s.group g).owner ∧ (t.group g).down.stalled = true ∧
        t.current g = some (k, z) ∧ z.hold = .none ∧ z.relay = .stalled ∧ z.relayed = x.relayed ∧
        z.readBytes = x.readBytes ∧
        (t.group g).up.answer =
          (match x.hold with
          | .read _ _ => UpAnswer.data 255#8
          | _ => .nack)) ∧
    ((s.group g).down.stalled = true → (s.group g).owner = .host c false → s.stretched g = false →
      ∃ t, exec (.moduleReleasesDscl g) s = .next t ∧ t.cages = s.cages ∧ SameDevice s t ∧
        (∀ h, h ≠ g → t.group h = s.group h) ∧
        t.group g =
          { s.group g with down := { (s.group g).down with stalled := false, selected := none } }) ∧
    (∀ x, (s.group g).down.stalled = true → (s.group g).owner = .host c false →
      (s.group g).up.transaction = some { cage := some k, transfer := some x } → x.hold = .release →
      ∃ t z, exec (.moduleReleasesDscl g) s = .next t ∧ t.cages = s.cages ∧ SameDevice s t ∧
        (∀ h, h ≠ g → t.group h = s.group h) ∧ t.current g = some (k, z) ∧
        t.group g =
          { s.group g with
            up := { transaction := (t.group g).up.transaction, answer := (s.group g).up.answer }
            down :=
              { (s.group g).down with
                stalled := false
                selected := some k
                wait := some { duration := s.settings.moduleWait, elapsed := 0 } } } ∧
        z = { x with hold := z.hold } ∧ z.GoesDown (s.profileOf k) (s.cage k).ctx ∧
        (z.hold = .address → t.wire g = some (.address x.address x.read)) ∧
        (∀ j, z.hold = .resync j → t.wire g = some (.address s.straps.moduleAddress false))) ∧
    ((s.group g).down.stalled = true → (s.group g).owner = .host c true →
      ∃ t, exec (.moduleReleasesDscl g) s = .next t ∧ BusOnly g s t ∧ (t.group g).down.stalled = false ∧
        (s.Chooses t g fun n => (s.cage (cageAt g n)).slot) ∧
        ((s.group g).waiting = none → (t.group g).up = (s.group g).up) ∧
        (s.NobodyWaits g → t.cages = s.cages)) ∧
    (∀ b x rest, s.SendsByte b x rest → groupOf b.cage = g → b.phase ≠ .ended →
      ∃ t, exec (.moduleStall g) s = .next t ∧ (t.group g).down.stalled = true ∧
        (t.group g).down.wait = none ∧ (t.group g).down.selected = (s.group g).down.selected ∧
        BurstGoesOn b.cage
          (if b.aborting then b
          else
            match b.phase with
            | .restore _ => { b with restoreFailed := some .stalled, phase := .ended }
            | _ => { b with outcome := some .stalled })
          none s t) ∧
    ∀ b, (s.group g).owner = .burst b.cage → (s.group g).burst = some b → groupOf b.cage = g →
      (s.group g).down.stalled = true →
      (b.aborting = true →
        ∃ t, exec (.moduleReleasesDscl g) s = .next t ∧ BusOnly g s t ∧ (t.group g).down.stalled = false ∧
          (t.cage b.cage).slotQueue = (s.cage b.cage).slotQueue.tail ∧
          (s.Chooses t g fun n =>
            if cageAt g n = b.cage then nextInSlot (s.cage b.cage).slotQueue else (s.cage (cageAt g n)).slot) ∧
          (s.NobodyWaits g → (s.cage b.cage).slotQueue = [] → (∀ j, j ≠ b.cage → t.cage j = s.cage j) ∧
            t.cage b.cage = Cage.driveLines { s.cage b.cage with slot := .empty } ∧
            t.group g =
              { s.group g with
                owner := .idle
                burst := none
                down := { (s.group g).down with stalled := false, selected := none, wait := none } })) ∧
      (b.aborting = false →
        ∃ t d, exec (.moduleReleasesDscl g) s = .next t ∧ t.cages = s.cages ∧ SameDevice s t ∧
          (∀ h, h ≠ g → t.group h = s.group h) ∧
          t.group g = { s.group g with burst := some d, down := (t.group g).down } ∧
          (t.group g).down.stalled = false ∧
          let v := (s.cage b.cage).ctx
          (b.phase = .select ∨ b.phase = .data →
            b.Restores d (if b.blind then none else v.belief) v false ∧
              (t.group g).down.selected = some b.cage ∧
              (t.group g).down.wait = some { duration := s.settings.moduleWait, elapsed := 0 }) ∧
          (b.phase = .ended →
            d = b ∧ (t.group g).down.selected = none ∧ (t.group g).down.wait = none))

/-- R7, R22, R25 to R31: MODULE_ANSWER to a burst's byte, byte by byte. An acknowledged byte (or one received) moves the transfer's
cursor and a KNOWN belief's pointer; the next byte of the transfer goes on the bus, or the next transfer's first, the select bytes
taken into the belief. The select phase over, the data phase begins; the data phase over, the burst is COMPLETE and the host view is
restored; a byte not acknowledged in either is NACKED, with the restore at once. The restore is made again when the host view has
changed meanwhile, and STOP ends it; one not acknowledged leaves the belief UNKNOWN. For an aborted burst the byte is the last,
whatever its answer: one read is not acknowledged, the slot passes to the agent that waits for it, and the arbiter chooses again.
These are the model's readings: that a byte read by an aborted burst is not acknowledged (assumption 9; R4 says it of a forwarded read
ended early), that a burst begun with the belief UNKNOWN restores the host view in full (R32 over R29's sentence, assumption 19), and
that a belief that became UNKNOWN during the restore counts as differing from the host view (assumption 30). -/
def Obligations.BurstBytesFollowTheirPhases : Prop :=
  ∀ (s : State) (b : Burst) (x : DownByte) (rest : List DownByte) (ack : Bool) (data : Byte),
    s.inReset = false → s.SendsByte b x rest →
    let g := groupOf b.cage
    let v := (s.cage b.cage).ctx
    (b.aborting = true →
      ∃ t, exec (.moduleAnswer g ack data) s = .next t ∧ BusOnly g s t ∧
        (t.group g).down.lastAck = (if x = .read then false else (s.group g).down.lastAck) ∧
        (t.cage b.cage).slotQueue = (s.cage b.cage).slotQueue.tail ∧
        (s.Chooses t g fun n =>
          if cageAt g n = b.cage then nextInSlot (s.cage b.cage).slotQueue else (s.cage (cageAt g n)).slot) ∧
        (s.NobodyWaits g → (s.cage b.cage).slotQueue = [] → (∀ j, j ≠ b.cage → t.cage j = s.cage j) ∧
          t.cage b.cage = Cage.driveLines { s.cage b.cage with slot := .empty } ∧
          t.group g =
            { s.group g with
              owner := .idle
              burst := none
              down :=
                { (s.group g).down with
                  selected := none
                  wait := none
                  lastAck := if x = .read then false else (s.group g).down.lastAck } })) ∧
    (b.aborting = false →
    let heard := ack = true ∨ x = .read
    let move (p : Byte) :=
      match x with
      | .addressWrite | .addressRead => p
      | .offset o => o
      | .data _ | .read => ptrNext p
    let selected (o : Byte) (was : Option Byte) :=
      match x with
      | .data n => if b.job.cursor = o then some n else was
      | _ => was
    let job :=
      { b.job with
        cursor := move b.job.cursor
        pageSet := selected b.pageSelect b.job.pageSet
        bankSet :=
          if b.job.cursor = b.pageSelect then b.job.bankSet
          else b.bankSelect.elim b.job.bankSet fun o => selected o b.job.bankSet }
    let bel := v.belief.map fun f => { f with ptr := move f.ptr }
    let ended := bel.map fun f => { f with bank := job.bankSet.getD f.bank, page := job.pageSet.getD f.page }
    let known := ended.or (if b.job.full then some b.job.goal else none)
    let c :=
      { b with
        acked :=
          match b.phase, x with
          | .data, .data _ => b.acked + 1
          | _, _ => b.acked
        received :=
          match b.phase, x with
          | .data, .read => b.received ++ [data]
          | _, _ => b.received }
    let lost := if x = .addressWrite ∨ x = .addressRead then v.belief else none
    let restored := ∃ f, known = some f ∧ (b.bankSelect = none ∨ f.bank = v.shadowBank) ∧
      f.page = v.modulePage ∧ f.ptr = v.hostPtr
    let last := heard ∧ rest = [] ∧ b.job.later = []
    ∃ t d, exec (.moduleAnswer g ack data) s = .next t ∧
      let sent := (t.group g).down.wait = some { duration := s.settings.moduleWait, elapsed := 0 }
      let stopped := (t.group g).down.wait = none ∧ (t.group g).down.selected = none
      (t.group g).down.stalled = false ∧
      (x = .read → rest ≠ [] ∨ b.job.later = [] →
        (t.group g).down.lastAck = decide (rest.head? = some DownByte.read)) ∧
      (heard → rest ≠ [] →
        BurstGoesOn b.cage d bel s t ∧ d = { c with job := { job with current := rest } } ∧ sent ∧
          (t.group g).down.selected = (s.group g).down.selected) ∧
      (∀ n more, heard → rest = [] → b.job.later = n :: more → n ≠ [] →
        BurstGoesOn b.cage d ended s t ∧
          d = { c with job := { job with current := n, later := more, bankSet := none, pageSet := none } } ∧
          sent) ∧
      (last → b.phase = .select →
        BurstGoesOn b.cage d known s t ∧ d = { c with phase := .data, job := d.job } ∧ sent ∧
          d.job.cursor = 0#8 ∧ d.job.bankSet = none ∧ d.job.pageSet = none ∧
          (∀ bytes, b.request.data = some bytes →
            d.job.current = .addressWrite :: .offset b.request.target.loc.offset :: bytes.map DownByte.data ∧
              d.job.later = []) ∧
          (b.request.data = none →
            d.job.current = [.addressWrite, .offset b.request.target.loc.offset] ∧
              d.job.later = [.addressRead :: List.replicate b.request.target.length .read])) ∧
      (last → b.phase = .data →
        BurstGoesOn b.cage d known s t ∧ sent ∧ (t.group g).down.selected = some b.cage ∧
          { c with outcome := some .complete }.Restores d (if b.blind then none else known) v false) ∧
      (∀ second, last → b.phase = .restore second → second = false → ¬restored →
        BurstGoesOn b.cage d known s t ∧ sent ∧ (t.group g).down.selected = some b.cage ∧
          b.Restores d known v true) ∧
      (∀ second, last → b.phase = .restore second → second = true ∨ restored →
        BurstGoesOn b.cage d known s t ∧ stopped ∧ d = { b with phase := .ended, job := d.job }) ∧
      (¬heard → b.phase = .select ∨ b.phase = .data →
        BurstGoesOn b.cage d lost s t ∧ sent ∧ (t.group g).down.selected = some b.cage ∧
          { b with outcome := some .nacked }.Restores d (if b.blind then none else lost) v false) ∧
      (∀ second, ¬heard → b.phase = .restore second →
        BurstGoesOn b.cage d none s t ∧ stopped ∧
          d = { b with phase := .ended, restoreFailed := some .nacked }))

/-- R7, R10, R13, R14, R19, R22, R24: MODULE_ANSWER and MODULE_STALL to a byte of a resynchronisation, and to the last byte of a transfer
that is to be cut. An acknowledged byte sends the next one, and after the last select or pointer write the host's address byte goes on the
bus, the belief KNOWN where every select was written; a byte not acknowledged, or a stall, refuses the host at its address byte with the
belief UNKNOWN, each in its counter. A transfer, forwarded or foreign, whose cage has left SERVING or HELD goes on on its new path from
there, STOP having gone downstream and the bus given back: at once, the arbiter choosing again, or, for a stall, when the module lets go.
The cut byte itself, an address byte too, has the answer, the pending select, the hand-over and the belief that it has without a cut, the
selects acknowledged taken into the belief as the transfer ends downstream, and a byte read from the module is not acknowledged to it.
That the cut waits for the byte on the bus is the model's reading (assumption 9), and so are that a resynchronisation ends at its byte and
that the rest of a stalled transfer is handled on its new path (assumption 22), that STOP goes downstream at once after a
resynchronisation or an address byte of a read refused by a not-acknowledge (assumption 28), and that a foreign transfer is relayed and
stalls like a forwarded one (assumption 7). -/
def Obligations.ResynchronisationGoesByteByByte : Prop :=
  ∀ (s : State) (g : GroupId) (k c : CageId) (x : Transfer), s.inReset = false →
    (s.group g).owner = .host c false → (s.group g).down.wait.isSome = true →
    (s.group g).down.stalled = false →
    (s.group g).up.transaction = some { cage := some k, transfer := some x } →
    let p := s.profileOf k
    let v := (s.cage k).ctx
    let counted (i : Fin 21) := (s.cage k).events.counters.set i (min 65535 ((s.cage k).events.counters[i] + 1))
    let sent (t : State) := (t.group g).down.wait = some { duration := s.settings.moduleWait, elapsed := 0 }
    let stands (t : State) :=
      (∀ j, j ≠ k → t.cage j = s.cage j) ∧ (∀ h, h ≠ g → t.group h = s.group h) ∧ SameDevice s t ∧
        (t.cage k).seq = (s.cage k).seq ∧ (t.cage k).journal = (s.cage k).journal ∧
        (t.cage k).ledger = (s.cage k).ledger ∧ (t.cage k).events.flags = (s.cage k).events.flags
    let passes (t : State) :=
      (∀ j, j ≠ k → SameButSlot (s.cage j) (t.cage j)) ∧ (∀ h, h ≠ g → t.group h = s.group h) ∧
        SameDevice s t ∧
        SameButSlot { s.cage k with ctx := (t.cage k).ctx, events := (t.cage k).events } (t.cage k) ∧
        (s.Chooses t g fun n => (s.cage (cageAt g n)).slot) ∧ (s.NobodyWaits g → stands t)
    (∀ (j : Job) (b : DownByte) (rest : List DownByte) (ack : Bool) (data : Byte),
      x.hold = .resync j → j.current = b :: rest →
      let move (q : Byte) :=
        match b with
        | .addressWrite | .addressRead => q
        | .offset o => o
        | .data _ | .read => ptrNext q
      let selected (o : Byte) (was : Option Byte) :=
        match b with
        | .data n => if j.cursor = o then some n else was
        | _ => was
      let job :=
        { j with
          cursor := move j.cursor
          pageSet := selected p.pageSelect j.pageSet
          bankSet :=
            if j.cursor = p.pageSelect then j.bankSet
            else p.bankSelect.elim j.bankSet fun o => selected o j.bankSet }
      let bel := v.belief.map fun f => { f with ptr := move f.ptr }
      let ended := bel.map fun f => { f with bank := job.bankSet.getD f.bank, page := job.pageSet.getD f.page }
      (x.cut = none → ack = true →
        ∃ t, exec (.moduleAnswer g ack data) s = .next t ∧ stands t ∧ sent t ∧
          (t.cage k).events = (s.cage k).events ∧ (t.group g).owner = (s.group g).owner ∧
          (t.group g).up.answer = (s.group g).up.answer ∧
          (rest ≠ [] → (t.cage k).ctx = { v with belief := bel } ∧
            t.current g = some (k, { x with hold := .resync { job with current := rest } })) ∧
          (∀ n more, rest = [] → j.later = n :: more → n ≠ [] → (t.cage k).ctx = { v with belief := ended } ∧
            t.current g =
              some (k,
                { x with
                  hold := .resync { job with current := n, later := more, bankSet := none, pageSet := none } })) ∧
          (rest = [] → j.later = [] →
            (t.cage k).ctx =
                { v with belief := ended.or (if j.full then some j.goal else none) } ∧
              t.current g = some (k, { x with hold := .address }) ∧
              t.wire g = some (.address x.address x.read))) ∧
      (x.cut = none → ack = false →
        ∃ t, exec (.moduleAnswer g ack data) s = .next t ∧ stands t ∧
          (t.cage k).events.counters = counted 11 ∧ (t.cage k).ctx = { v with belief := none } ∧
          (t.group g).owner = (s.group g).owner ∧ (t.group g).up.answer = .nack ∧
          (t.group g).down.wait = none ∧ (t.group g).down.selected = none ∧
          t.current g = some (k, { x with path := .refused, hold := .none })) ∧
      (x.cut = none →
        ∃ t, exec (.moduleStall g) s = .next t ∧ stands t ∧ (t.cage k).events.counters = counted 12 ∧
          (t.cage k).ctx = { v with belief := none } ∧ (t.group g).owner = (s.group g).owner ∧
          (t.group g).up.answer = .nack ∧ (t.group g).down.stalled = true ∧ (t.group g).down.wait = none ∧
          t.current g = some (k, { x with path := .refused, hold := .none })) ∧
      ∀ q, x.cut = some q →
        let told := if q = .concealed ∨ q = .uncovered ∨ q = .control then UpAnswer.ack else .nack
        ((s.group g).waiting = none →
          ∃ t, exec (.moduleAnswer g ack data) s = .next t ∧ passes t ∧ (t.group g).up.answer = told ∧
            t.current g = some (k, { x with path := q, hold := .none, cut := none }) ∧
            (ack = true → (t.cage k).events = (s.cage k).events ∧
              (t.cage k).ctx = { v with belief := if rest = [] then ended else bel }) ∧
            (ack = false → (t.cage k).events.counters = counted 11 ∧
              (t.cage k).ctx = { v with belief := none })) ∧
        ∃ t, exec (.moduleStall g) s = .next t ∧ stands t ∧ (t.group g).owner = .host c true ∧
          (t.group g).down.stalled = true ∧ (t.group g).up.answer = told ∧
          (t.cage k).events.counters = counted 12 ∧ (t.cage k).ctx = { v with belief := none } ∧
          t.current g = some (k, { x with path := q, hold := .none, cut := none })) ∧
    ∀ q, (x.path = .forwarded ∨ x.path = .foreign) → x.relay = .live → x.cut = some q →
      (x.hold = .address ∨ (∃ o, x.hold = .offset o) ∨ (∃ o b, x.hold = .data o b) ∨
        ∃ o more, x.hold = .read o more ∧ x.read = true) →
      let alien := x.path = .foreign
      (∀ ack data, (s.group g).waiting = none →
        ∃ t z, exec (.moduleAnswer g ack data) s = .next t ∧ passes t ∧
          (t.cage k).events = (s.cage k).events ∧
          let told := if ack then UpAnswer.ack else .nack
          let taken (bank page : Option Byte) (f : Belief) : Belief :=
            { f with bank := bank.getD f.bank, page := page.getD f.page }
          let cut := { x with path := q, cut := none, hold := .none, bankSet := none, pageSet := none }
          t.current g = some (k, z) ∧
          (x.hold = .address → (t.group g).up.answer = told ∧
            (ack = true ∨ alien →
              (t.cage k).ctx = { v with belief := v.belief.map (taken x.bankSet x.pageSet) } ∧ z = cut) ∧
            (ack = false → ¬alien → (t.cage k).ctx = v ∧
              z = { x with path := q, cut := none, hold := .none, relay := .nacked })) ∧
          (∀ o, x.hold = .offset o → (t.group g).up.answer = told ∧ z = cut ∧
            (t.cage k).ctx =
              { v with
                belief :=
                  if alien then v.belief.map (taken x.bankSet x.pageSet)
                  else if ack then v.belief.map fun f => taken x.bankSet x.pageSet { f with ptr := o }
                  else none }) ∧
          (∀ o b, x.hold = .data o b → alien → (t.group g).up.answer = told ∧ z = cut ∧
            (t.cage k).ctx = { v with belief := v.belief.map (taken x.bankSet x.pageSet) }) ∧
          (∀ o b, x.hold = .data o b → ¬alien →
            let r := p.classify x.bank x.page o
            let page := ack = true ∧ o = p.pageSelect
            let bank := ack = true ∧ o ≠ p.pageSelect ∧ p.bankSelect = some o
            (t.cage k).ctx =
                { v with
                  pendingPage := if page then some b else v.pendingPage
                  pendingBank := if bank then some b else v.pendingBank
                  belief :=
                    if ack then
                      v.belief.map fun f =>
                        taken (if bank then some b else x.bankSet) (if page then some b else x.pageSet)
                          { f with ptr := ptrNext f.ptr }
                    else none } ∧
              (t.group g).up.answer = told ∧
              z =
                { cut with
                  relayed := x.relayed ++ [{ offset := o, value := b, region := r, acked := ack, gap := false }]
                  resetSeen := z.resetSeen } ∧
              (z.resetSeen = true ↔
                x.resetSeen = true ∨ (ack = true ∧ ∃ w, r = some w ∧ w.writeClass = .reset))) ∧
          (∀ o more, x.hold = .read o more → (t.group g).down.lastAck = false ∧
            (alien →
              (t.cage k).ctx = { v with belief := v.belief.map (taken x.bankSet x.pageSet) } ∧
                (t.group g).up.answer = .data data ∧ z = { cut with ended := !more }) ∧
            (¬alien →
              (t.cage k).ctx =
                  { v with
                    belief :=
                      v.belief.map fun f => taken x.bankSet x.pageSet { f with ptr := ptrNext f.ptr } } ∧
                (t.group g).up.answer =
                  .data
                    (if o = p.pageSelect ∧
                        (v.shadowPage = s.straps.ctrlPage ∨ v.shadowPage = s.straps.ctrlPage + 1#8) then
                      v.shadowPage
                    else data) ∧
                z =
                  { cut with
                    ended := !more
                    relay :=
                      if more = true ∧ (s.straps.controlByte x.page v.hostPtr).isSome = true then .afterSelect
                      else .live
                    readBytes := x.readBytes ++ p.cacheBytes x.bank x.page o [data] }))) ∧
      ∃ t z, exec (.moduleStall g) s = .next t ∧ stands t ∧ (t.cage k).events.counters = counted 12 ∧
        (t.cage k).ctx = { v with belief := none } ∧ (t.group g).owner = .host c true ∧
        (t.group g).down.stalled = true ∧ t.current g = some (k, z) ∧
        z =
          { x with
            path := q
            cut := none
            hold := .none
            ended :=
              match x.hold with
              | .read _ more => !more
              | _ => x.ended } ∧
        (t.group g).up.answer =
          (match x.hold with
          | .read _ _ => UpAnswer.data 255#8
          | _ => .nack)

/-- R15, R22 to R24: HOST_WAIT_EXPIRY refuses the waiting transfer at its address: not acknowledged, the burst runs on, and nothing
of any cage changes. ABANDONED drops the transaction of a cage, with or without a transfer in progress: nothing of its transfer is handed
on, the pending selects are discarded, a forwarded transfer leaves the belief UNKNOWN, the device counts it, and the bus is given back: at
once, the arbiter choosing again, or, while the module stalls, when it lets go. A transaction without a cage is not found abandoned: the
event then has no occasion (assumption 2).
That an abandoned foreign transfer leaves the belief UNKNOWN is read from the rules by inference (assumption 7). -/
def Obligations.WaitExpiryAndAbandonmentEndTheTransfer : Prop :=
  ∀ (s : State) (g : GroupId) (k : CageId), s.inReset = false →
    (∀ (x : Transfer) (w : WaitingHost), (s.group g).waiting = some w →
      (s.group g).up.transaction = some { cage := some k, transfer := some x } →
      (x.path = .forwarded ∨ x.path = .foreign) →
      ∃ t, exec (.hostWaitExpiry g) s = .next t ∧ t.cages = s.cages ∧ SameDevice s t ∧
        (∀ h, h ≠ g → t.group h = s.group h) ∧
        t.group g =
          { s.group g with
            waiting := none
            up :=
              { transaction :=
                  some
                    { cage := some k
                      transfer :=
                        some
                          { x with
                            path := if x.path = .forwarded then .refused else .foreignRefused
                            hold := .none
                            cut := none } }
                answer := .nack } }) ∧
    (∀ y : Option Transfer, (s.group g).up.transaction = some { cage := some k, transfer := y } →
      (∀ x, y = some x → x.hold = .none) →
      ∃ t, exec (.abandoned g) s = .next t ∧ (∀ j, j ≠ k → SameButSlot (s.cage j) (t.cage j)) ∧
        (∀ h, h ≠ g → t.group h = s.group h) ∧
        SameDevice { s with counters := s.counters.set 2 (min 65535 (s.counters[2] + 1)) } t ∧
        (t.group g).up = { transaction := none, answer := .released } ∧ s.GivesBack t g ∧
        SameButSlot
          { s.cage k with
            ctx :=
              { (s.cage k).ctx with
                pendingBank := none
                pendingPage := none
                belief :=
                  match y with
                  | some x =>
                    if (x.path = .forwarded ∨ x.path = .foreign) ∧ x.relay = .live then none
                    else (s.cage k).ctx.belief
                  | none => (s.cage k).ctx.belief } }
          (t.cage k)) ∧
    ∀ y : Option Transfer, (s.group g).up.transaction = some { cage := none, transfer := y } →
      ∃ t, exec (.abandoned g) s = .next t ∧ t.cages = s.cages ∧ t.groups = s.groups ∧ SameDevice s t

/-- R21, R22, R25, R26, R30, R35: BURST_END counts a burst once for its acknowledges and once for its stall, but no readiness poll's
not-acknowledge, whatever its report leads to, and the bus passes on: to a waiting host, to a request whose burst begins, or to
nobody. A burst whose select offsets changed under it leaves the belief UNKNOWN. A burst
whose operation has ended changes nothing else, but that a glitch probe which waited for its report starts (R142): its slot passes to the agent that waits for it, and the arbiter hands the bus to the
waiting host, whose transfer goes on from its address byte, else to the first request after the slot last served, whose burst begins,
else to nobody. The order of these effects within the event is the model's reading (assumption 15), and so is that a host that waited
takes the select offsets in force at the hand-over (assumption 24). -/
def Obligations.BurstEndCountsOnce : Prop :=
  ∀ (s : State) (g : GroupId) (b : Burst), s.inReset = false → (s.group g).burst = some b →
    b.phase = .ended → (s.group g).down.stalled = false → groupOf b.cage = g →
    ∃ t, exec (.burstEnd g) s = .next t ∧ t.PassedOn g ∧
      let c := s.cage b.cage
      let d := t.cage b.cage
      let nack := (b.outcome = some .nacked ∨ b.restoreFailed = some .nacked) ∧ b.request.purpose ≠ .poll
      let stall := b.outcome = some .stalled ∨ b.restoreFailed = some .stalled
      let now (i : Fin 21) :=
        if (i = 11 ∧ nack) ∨ (i = 12 ∧ stall) then min 65535 (c.events.counters[i] + 1)
        else c.events.counters[i]
      d.events.counters[11] = now 11 ∧ d.events.counters[12] = now 12 ∧
      (b.spoiled = true → d.ctx.belief = none) ∧
      (b.orphan = true → (b.agent = .monitor ∨ c.ops.glitchWait ≠ some .report) →
        CageAndBus b.cage s t ∧ d.events.flags = c.events.flags ∧
        (∀ i : Fin 21, d.events.counters[i] = now i) ∧
        d.seq = c.seq ∧ d.ops = c.ops ∧ d.light = c.light ∧ d.journal = c.journal ∧
        d.ledger = c.ledger ∧ d.qual = c.qual ∧ d.standing = c.standing ∧
        (d.ctx = if b.spoiled then { c.ctx with belief := none } else c.ctx) ∧
        d.slotQueue = c.slotQueue.tail ∧
        s.Chooses t g fun n =>
          if cageAt g n = b.cage then nextInSlot c.slotQueue else (s.cage (cageAt g n)).slot) ∧
      (b.orphan = true → b.agent = .sequencer → c.ops.glitchWait = some .report → c.slot = .running →
        CageAndBus b.cage s t ∧
        (∀ l v, (s.profileOf b.cage).usableProbe = some l → c.journal.expected l = some v →
          d.seq = c.seq ∧ d.journal = c.journal ∧
          d.ops =
            { c.ops with probe := some { glitch := true, loc := l, failures := 0 }, glitchWait := none } ∧
          t.Wants b.cage .sequencer
            { purpose := .probe, target := { loc := l, length := 1 }, data := none }) ∧
        ((∀ l v, (s.profileOf b.cage).usableProbe = some l → c.journal.expected l ≠ some v) →
          s.EntersBooting t b.cage ∧ s.BeginsRecovery t b.cage .silent ∧
            d.seq.baseline = c.seq.baseline ∧ d.journal = { c.journal with target := none } ∧
            s.AnswersWaiter t b.cage false))

/-- R30, R33, R140: a report of a state probe's read. With the expected byte, as it now stands, the cage stays SERVING and the probe
timer starts again; with another byte a SILENT recovery begins. With no expected byte left a periodic probe ends like the first and a
glitch probe like the second. A failed read is raised again after the retry interval, and a SILENT recovery begins when it is
exhausted. A host of the cage that waits behind the burst is answered on the new path (R23). -/
def Obligations.ProbeReportIsJudged : Prop :=
  ∀ (s : State) (k : CageId) (b : Burst) (x : Probe), s.inReset = false → s.Reports k b →
    b.request.purpose = .probe → (s.cage k).ops.probe = some x → (s.cage k).ops.capture = none →
    let c := s.cage k
    let agreed := ∃ v, c.journal.expected x.loc = some v ∧ b.received = [v]
    let settled := agreed ∨ (c.journal.expected x.loc = none ∧ x.glitch = false)
    let failed := b.outcome = some .nacked ∨ b.outcome = some .stalled
    ∃ t, exec (.burstEnd (groupOf k)) s = .next t ∧ CageAndBus k s t ∧
      let d := t.cage k
      let probeTimer : Option Timer :=
        if s.settings.probePeriod = 0 then none
        else some { duration := s.settings.probePeriod * 1000, elapsed := 0 }
      let retry : Option Timer := some { duration := s.settings.retryInterval, elapsed := 0 }
      (b.outcome = some .complete → settled →
        SameButSlot
          { c with
            seq := { c.seq with probeTimer := probeTimer }
            ops := { c.ops with probe := none, retry := none } } d) ∧
      (failed → x.failures + 1 < s.settings.retryLimit →
        SameButSlot
          { c with
            ops := { c.ops with probe := some { x with failures := x.failures + 1 }, retry := retry }
            events := { c.events with counters := d.events.counters } } d) ∧
      ((b.outcome = some .complete ∧ ¬settled) ∨ (failed ∧ s.settings.retryLimit ≤ x.failures + 1) →
        s.EntersBooting t k ∧ s.BeginsRecovery t k .silent ∧ d.seq.baseline = c.seq.baseline ∧
          d.light.activity = .idle ∧ d.ops.probe = none ∧ d.light.lanes = c.light.lanes ∧
          (b.outcome = some .complete → d.events.counters = c.events.counters) ∧
          SameButSlot
            { c with
              ctx := d.ctx, seq := d.seq, ops := d.ops, light := d.light
              events := { c.events with counters := d.events.counters, flags := d.events.flags }
              journal := { c.journal with target := none } } d ∧
          ((s.group (groupOf k)).owner = .burst k → d.ctx = c.ctx) ∧ s.AnswersWaiter t k false)

/-- R39, R70, R100 to R105, R127, R129, R133: a report of a readiness poll. One that finds the module ready ends the wait: in BOOTING
the cage enters IDENTIFYING and asks for the first read of its profile, or, with no read in the profile, reaches the outcome FIRST or
UNCHECKED at once; in RAMPING replay starts. Any other starts the poll timer. A byte polled in RAMPING from a LIVE region fills the
cache.
The serving check as a step of its own is read from the table by inference (assumption 14). That a recovery of another kind than FIRST
writes the journal also after an outcome FIRST is the model's reading of R105 and R133 beside R102 (assumption 33). -/
def Obligations.PollReportJudgesReadiness : Prop :=
  ∀ (s : State) (k : CageId) (b : Burst) (x : Polling), s.inReset = false → s.Reports k b →
    b.request.purpose = .poll → (s.cage k).ops.polling = some x →
    let c := s.cage k
    let p := s.profileOf k
    let o := b.request.target.loc.offset
    let ready := b.outcome = some .complete ∧ ∃ v, b.received = [v] ∧ v &&& x.mask = x.value &&& x.mask
    let q : Sequencer := { c.seq with waitTimer := none, declared := none }
    (∀ r rest, ready → c.seq.state = .booting → p.idReads = r :: rest →
      ∃ t y, exec (.burstEnd (groupOf k)) s = .next t ∧ CageAndBus k s t ∧
        SameButSlot
          { c with
            seq := { q with state := .identifying }
            ops := { c.ops with polling := none, identification := some y } } (t.cage k) ∧
        y.todo = r :: rest ∧ y.held = [] ∧ y.attempt = [] ∧ y.failures = 0 ∧ (∀ i : Fin 4, y.got[i] = none) ∧
        t.Wants k .sequencer r.request) ∧
    (ready → c.seq.state = .booting → p.idReads = [] → s.queue = [] →
      ∃ t, exec (.burstEnd (groupOf k)) s = .next t ∧
        s.ReachesOutcome t k q c.events (if c.seq.baseline = none then .first else .unchecked)
          (Vector.replicate 4 none) []) ∧
    (ready → c.seq.state = .ramping →
      ∃ t, exec (.burstEnd (groupOf k)) s = .next t ∧ CageAndBus k { s with cache := t.cache } t ∧
        s.StartsReplay t k c.events { c.seq with state := .replaying, waitTimer := none } ∧
        let d := t.cage k
        d.ops.polling = none ∧
          SameButSlot
            { c with
              seq := d.seq, ops := d.ops, light := d.light, journal := d.journal, standing := d.standing
              events := d.events } d) ∧
    (¬ready → ∃ t, exec (.burstEnd (groupOf k)) s = .next t ∧
      CageAndBus k { s with cache := t.cache } t ∧
      let d := t.cage k
      SameButSlot
        { c with
          ops :=
            { c.ops with
              polling :=
                some { x with timer := some { duration := s.settings.readyPoll * 10, elapsed := 0 } } }
          events := { c.events with counters := d.events.counters } } d ∧
        (b.outcome ≠ some .stalled → d.events.counters = c.events.counters)) ∧
    ∀ t, exec (.burstEnd (groupOf k)) s = .next t →
      ((c.seq.state ≠ .ramping ∧ (¬ready ∨ p.idReads ≠ [])) ∨ b.outcome = some .nacked →
        t.cache = s.cache) ∧
      ∀ v, c.seq.state = .ramping → b.outcome = some .complete → b.received = [v] →
        (∀ r, p.classify b.bank b.page o = some r → r.readClass = .live →
          t.cache =
            fillLines k [{ key := keyAt b.bank b.page o, pos := posOf o, value := v, readClass := .live }]
              s.cache) ∧
        (p.classify b.bank b.page o = none ∨
            (∃ r, p.classify b.bank b.page o = some r ∧ r.readClass = .static) →
          t.cache = s.cache)

/-- R33, R70, R73, R101, R128, R129: a report of an identification's read. A COMPLETE one keeps its bytes, and asks for the next read;
a failed one is asked for again after the retry interval, the bytes of a STALLED one held for the cache; an exhausted prefetch read is
given up, and as the last read it ends the identification (IdentificationOutcomeIsActedOn); an exhausted identity or power read ends it UNREAD: the cage's lines are freed, the held bytes of the completed
reads fill the cache, the standing is UNMATCHED, and the cage is held.
That UNREAD leaves out what STALLED attempts of the exhausted read brought is the model's reading (assumption 26). -/
def Obligations.IdentificationReadIsReported : Prop :=
  ∀ (s : State) (k : CageId) (b : Burst) (x : Identification) (e : IdRead) (rest : List IdRead),
    s.inReset = false → s.Reports k b → (b.request.purpose = .identity ∨ b.request.purpose = .prefetch) →
    (s.cage k).ops.identification = some x → x.todo = e :: rest →
    let c := s.cage k
    let read :=
      x.attempt ++
        (s.profileOf k).cacheBytes b.bank b.page b.request.target.loc.offset b.received
    let failed := b.outcome = some .nacked ∨ b.outcome = some .stalled
    let tried := if b.outcome = some .stalled then read else x.attempt
    let spare := ∃ g, e = .prefetch g
    (∀ n more, b.outcome = some .complete → rest = n :: more →
      ∃ t, exec (.burstEnd (groupOf k)) s = .next t ∧ CageAndBus k s t ∧
        let d := t.cage k
        d.ops =
            { c.ops with
              identification :=
                some
                  { x with
                    todo := rest
                    got :=
                      match e with
                      | .span i role _ => x.got.set i (some { role := role, bytes := b.received })
                      | _ => x.got
                    held := x.held ++ read
                    attempt := []
                    failures := 0 } } ∧
          d.seq =
            { c.seq with
              declared :=
                match e with
                | .power _ => some (b.received.headD 0#8)
                | _ => c.seq.declared } ∧
          t.Wants k .sequencer n.request ∧ d.standing = c.standing ∧ d.journal = c.journal ∧
          d.ledger = c.ledger ∧ d.events = c.events ∧ d.light = c.light ∧ d.ctx = c.ctx) ∧
    (failed → x.failures + 1 < s.settings.retryLimit →
      ∃ t, exec (.burstEnd (groupOf k)) s = .next t ∧ CageAndBus k s t ∧
        let d := t.cage k
        d.ops =
            { c.ops with
              identification := some { x with attempt := tried, failures := x.failures + 1 }
              retry := some { duration := s.settings.retryInterval, elapsed := 0 } } ∧
          d.seq = c.seq ∧ d.standing = c.standing ∧ d.journal = c.journal ∧ d.ledger = c.ledger ∧
          d.light = c.light ∧ d.ctx = c.ctx) ∧
    (∀ n more, failed → s.settings.retryLimit ≤ x.failures + 1 → spare → rest = n :: more →
      ∃ t, exec (.burstEnd (groupOf k)) s = .next t ∧ CageAndBus k s t ∧
        let d := t.cage k
        d.ops =
            { c.ops with
              identification :=
                some { x with todo := rest, held := x.held ++ tried, attempt := [], failures := 0 } } ∧
          d.seq = c.seq ∧ t.Wants k .sequencer n.request ∧ d.standing = c.standing ∧
          d.journal = c.journal ∧ d.ledger = c.ledger ∧ d.light = c.light ∧ d.ctx = c.ctx) ∧
    (failed → s.settings.retryLimit ≤ x.failures + 1 → ¬spare →
      ∃ t, exec (.burstEnd (groupOf k)) s = .next t ∧ CageAndBus k { s with cache := t.cache } t ∧
        t.cache = fillLines k x.held (s.cache.filter fun l => decide (l.owner ≠ k)) ∧
        let d := t.cage k
        d.seq.state = .held ∧ d.seq.holdReason = .identityUnread ∧ d.seq.outcome = .unread ∧
          d.seq.recovery = none ∧ d.seq.concealed = false ∧ d.seq.baseline = c.seq.baseline ∧
          d.standing = .unmatched ∧ d.ops.identification = none ∧
          d.journal = { c.journal with target := none } ∧ d.ledger = c.ledger)

/-- R61, R68, R73, R101 to R105, R128, R129, R133, R147 to R149, R151: identification's outcome, at the end of its last read, complete,
or a prefetch read that is given up: FIRST without a baseline, UNCHECKED without a span, else as the comparison with the baseline judges.
It sets the standing, the baseline, FROZEN and the cage's lines, and holds the cage, or goes on to power: with a grant held it ramps; with
a HOST-owned low-power line the charge is set at once and replay starts; over its ceiling it is held; else it joins the wait queue, and is
granted when it fits. A cage that ramps begins its ramp wait. An identification with no read in its profile reaches its outcome at the
entry to IDENTIFYING (BootDelayBeginsIdentification, PollReportJudgesReadiness). -/
def Obligations.IdentificationOutcomeIsActedOn : Prop :=
  ∀ (s : State) (k : CageId) (b : Burst) (x : Identification) (e : IdRead) (o : IdOutcome),
    s.inReset = false → s.Reports k b → (b.request.purpose = .identity ∨ b.request.purpose = .prefetch) →
    (s.cage k).ops.identification = some x → x.todo = [e] → s.queue = [] →
    let failed := b.outcome = some .nacked ∨ b.outcome = some .stalled
    (b.outcome = some .complete ∨
      (failed ∧ s.settings.retryLimit ≤ x.failures + 1 ∧ ∃ g, e = .prefetch g)) →
    let c := s.cage k
    let p := s.profileOf k
    let got : Baseline :=
      match e with
      | .span i role _ => x.got.set i (some { role := role, bytes := b.received })
      | _ => x.got
    let declared :=
      match e with
      | .power _ => some (b.received.headD 0#8)
      | _ => c.seq.declared
    let held :=
      x.held ++ x.attempt ++
        if b.outcome = some .nacked then []
        else p.cacheBytes b.bank b.page b.request.target.loc.offset b.received
    let counted (i : Fin 21) : Events :=
      { c.events with counters := c.events.counters.set i (min 65535 (c.events.counters[i] + 1)) }
    let events : Events :=
      match b.outcome with
      | some .nacked => counted 11
      | some .stalled => counted 12
      | _ => c.events
    ((c.seq.baseline = none ∧ o = .first) ∨
      ∃ w, c.seq.baseline = some w ∧ o = if x.anySpan then compareBaseline w got else .unchecked) →
    ∃ t, exec (.burstEnd (groupOf k)) s = .next t ∧
      s.ReachesOutcome t k { c.seq with declared := declared } events o got held

/-- R44, R56, R57, R105, R134 to R137: a report of a replay burst. A COMPLETE write is read back where a byte of the run asks for it;
a run that needs no read-back, or reads back what it wrote, is done, and the next run is written, or the record finishes and its settle
wait begins, or, with a record settle of 0, the cursor goes on in the same event: to the next record with a run to write, to a new pass,
or to the end of replay; a mismatch writes the run again up to the read-back retry limit, then fails the record and holds the cage. A failed burst
is raised again after the retry interval, or holds the cage when replay is exhausted. The run's read-back and settle stay as its first
write took them. The serving check as a step of its own is read from the table by inference (assumption 14). -/
def Obligations.ReplayReportMovesTheCursor : Prop :=
  ∀ (s : State) (k : CageId) (b : Burst) (i : Nat) (r : Record) (u : Run) (us : List Run),
    s.inReset = false → s.Reports k b →
    (b.request.purpose = .replayWrite ∨ b.request.purpose = .readBack) →
    (s.cage k).ops.cursor.position = some i → (s.cage k).journal.list[i]? = some r →
    (s.cage k).ops.cursor.runs = u :: us →
    let c := s.cage k
    let p := s.profileOf k
    let x := c.ops.cursor
    let failed := b.outcome = some .nacked ∨ b.outcome = some .stalled
    let done :=
      b.outcome = some .complete ∧
        ((x.phase = .write ∧ x.check = false) ∨ (x.phase = .readBack ∧ b.received = x.carried))
    let differs := b.outcome = some .complete ∧ x.phase = .readBack ∧ b.received ≠ x.carried
    let moved (t : State) (y : Cursor) :=
      exec (.burstEnd (groupOf k)) s = .next t ∧ CageAndBus k s t ∧ (t.cage k).ops.cursor = y ∧
        (t.cage k).ledger = c.ledger ∧ (t.cage k).light = c.light ∧ (t.cage k).ctx = c.ctx ∧
        (t.cage k).seq = c.seq ∧ (t.cage k).events.flags = c.events.flags
    (b.outcome = some .complete → x.phase = .write → x.check = true →
      ∃ t, moved t { x with phase := .readBack, failures := 0 } ∧ (t.cage k).journal = c.journal ∧
        t.Wants k .sequencer { purpose := .readBack, target := u.target r.key, data := none }) ∧
    (∀ n more, done → us = n :: more →
      let within (j : Fin 8) (q : Region) :=
        n.first ≤ j.val ∧ j.val < n.first + n.length ∧
          p.classify r.key.bank r.key.page (r.key.offset j.val) = some q
      ∃ t y, moved t y ∧ (t.cage k).journal = c.journal ∧ y.position = some i ∧ y.phase = .write ∧
        y.runs = us ∧ y.rewrites = 0 ∧ y.failures = 0 ∧ y.carried = n.bytes r ∧
        (y.check = true ↔ ∃ j q, within j q ∧ q.readBack = true) ∧
        (∀ j q, within j q → q.settle ≤ y.settle) ∧ x.settle ≤ y.settle ∧
        (y.settle = x.settle ∨ ∃ j q, within j q ∧ q.settle = y.settle) ∧
        t.Wants k .sequencer
          { purpose := .replayWrite, target := n.target r.key, data := some (n.bytes r) }) ∧
    (done → us = [] → x.settle ≠ 0 →
      ∃ t, moved t
          { x with
            phase := .settle, runs := [], rewrites := 0, failures := 0
            timer := some { duration := x.settle * 10, elapsed := 0 } } ∧
        (t.cage k).journal =
          { c.journal with
            list :=
              if c.journal.target = some (i, true) then c.journal.list
              else c.journal.list.set i { r with mark := .applied }
            target := none } ∧
        (t.cage k).events.counters =
          c.events.counters.set 6 (min 65535 (c.events.counters[6] + 1))) ∧
    (done → us = [] → x.settle = 0 →
      ∃ t, exec (.burstEnd (groupOf k)) s = .next t ∧ CageAndBus k s t ∧
        s.CursorGoesOn t k
          { c.journal with
            list :=
              if c.journal.target = some (i, true) then c.journal.list
              else c.journal.list.set i { r with mark := .applied }
            target := none }
          { c.events with counters := c.events.counters.set 6 (min 65535 (c.events.counters[6] + 1)) }
          c.seq (i + 1) x.passes x.resumed ∧
        (t.cage k).ledger = c.ledger ∧ (t.cage k).qual = c.qual ∧ (t.cage k).ctx = c.ctx) ∧
    (differs → x.rewrites < s.settings.readBackRetry →
      ∃ t, moved t
          { x with phase := .write, rewrites := x.rewrites + 1, failures := 0, carried := u.bytes r } ∧
        (t.cage k).journal = c.journal ∧
        t.Wants k .sequencer
          { purpose := .replayWrite, target := u.target r.key, data := some (u.bytes r) }) ∧
    (differs → s.settings.readBackRetry ≤ x.rewrites →
      ∃ t, exec (.burstEnd (groupOf k)) s = .next t ∧ CageAndBus k s t ∧ (t.cage k).seq.state = .held ∧
        (t.cage k).seq.holdReason = .replayMismatch ∧ (t.cage k).seq.recovery = none ∧
        (t.cage k).ledger = c.ledger ∧
        (t.cage k).journal =
          { c.journal with list := c.journal.list.set i { r with mark := .failed }, target := none }) ∧
    (failed → x.failures + 1 < s.settings.retryLimit →
      ∃ t, moved t { x with failures := x.failures + 1 } ∧ (t.cage k).journal = c.journal ∧
        (t.cage k).ops.retry = some { duration := s.settings.retryInterval, elapsed := 0 }) ∧
    (failed → s.settings.retryLimit ≤ x.failures + 1 →
      ∃ t, exec (.burstEnd (groupOf k)) s = .next t ∧ CageAndBus k s t ∧ (t.cage k).seq.state = .held ∧
        (t.cage k).seq.holdReason = .moduleUnresponsive ∧ (t.cage k).seq.recovery = none ∧
        (t.cage k).ledger = c.ledger ∧ (t.cage k).journal = { c.journal with target := none })

/-- R23, R33, R70, R75, R98, R100, R110, R112, R113, R125, R131, R140, R142: a report of a baseline capture's read. A COMPLETE one keeps
the span's bytes and asks for the next span, which for ADOPT is the next that VALID lines do not cover, the covered ones taken from them;
with none left the capture is complete: its slots are the baseline, and those of CAGE_CLEAR fill the cache and make the standing MATCHED.
A failed one is asked for again after the retry interval; an exhausted one leaves the baseline absent, and after CAGE_CLEAR the standing
UNMATCHED. A glitch probe that waited starts when the capture is over: its read is asked for, or, with no byte to expect, a SILENT recovery
begins. -/
def Obligations.CaptureReportFillsTheBaseline : Prop :=
  ∀ (s : State) (k : CageId) (b : Burst) (x : Capture) (i : Fin 4) (role : Role) (g : Target)
    (rest : List (Fin 4 × Role × Target)),
    s.inReset = false → s.Reports k b → b.request.purpose = .identity →
    (s.cage k).ops.identification = none → (s.cage k).ops.capture = some x →
    (s.cage k).ops.probe = none → (s.cage k).ops.glitchWait ≠ some .report → x.todo = (i, role, g) :: rest →
    let c := s.cage k
    let p := s.profileOf k
    let read := x.held ++ p.cacheBytes b.bank b.page b.request.target.loc.offset b.received
    let got : Baseline := x.got.set i (some { role := role, bytes := b.received })
    let now (xs : List (Fin 4 × Role × Target)) (m : Fin 4) : Option BaselineSlot :=
      match xs.reverse.find? fun y => decide (y.1 = m) with
      | some y => (s.coveredSpan k y.2.2).map fun v => { role := y.2.1, bytes := v }
      | none => got[m]
    let covered (xs : List (Fin 4 × Role × Target)) :=
      xs = [] ∨ (x.origin = .adopt ∧ ∀ y ∈ xs, (s.coveredSpan k y.2.2).isSome = true)
    let failed := b.outcome = some .nacked ∨ b.outcome = some .stalled
    let completes := b.outcome = some .complete ∧ covered rest
    let gaveUp := failed ∧ s.settings.retryLimit ≤ x.failures + 1
    ∃ t w, exec (.burstEnd (groupOf k)) s = .next t ∧ CageAndBus k { s with cache := t.cache } t ∧
      let d := t.cage k
      let baseline : Option Baseline := if b.outcome = some .complete then some w else none
      d.ledger = c.ledger ∧ d.qual = c.qual ∧
      (completes → (∀ m : Fin 4, w[m] = now rest m) ∧
        d.standing = (if x.origin = .clear then .matched else c.standing) ∧
        t.cache = if x.origin = .clear then fillLines k read s.cache else s.cache) ∧
      (gaveUp → d.standing = (if x.origin = .clear then .unmatched else c.standing) ∧ t.cache = s.cache) ∧
      (c.ops.glitchWait = none ∨ ¬(completes ∨ gaveUp) →
        d.journal = c.journal ∧ d.light = c.light ∧ d.ctx = c.ctx ∧
        (b.outcome = some .complete → d.events = c.events)) ∧
      (∀ xs n more, b.outcome = some .complete → rest = xs ++ n :: more → covered xs →
        (x.origin = .adopt → s.coveredSpan k n.2.2 = none) →
        (∀ m : Fin 4, w[m] = now xs m) ∧
          d.ops =
            { c.ops with capture := some { x with got := w, todo := n :: more, held := read, failures := 0 } } ∧
          d.seq = c.seq ∧ d.standing = c.standing ∧ t.cache = s.cache ∧
          t.Wants k .sequencer { purpose := .identity, target := n.2.2, data := none }) ∧
      (failed → x.failures + 1 < s.settings.retryLimit →
        d.ops =
            { c.ops with
              capture :=
                some
                  { x with
                    held := if b.outcome = some .stalled then read else x.held
                    failures := x.failures + 1 }
              retry := some { duration := s.settings.retryInterval, elapsed := 0 } } ∧
          d.seq = c.seq ∧ d.standing = c.standing ∧ t.cache = s.cache) ∧
      (c.ops.glitchWait = none → completes ∨ gaveUp →
        d.seq = { c.seq with baseline := baseline } ∧ d.ops = { c.ops with capture := none }) ∧
      (c.ops.glitchWait = some .capture → completes ∨ gaveUp →
        (∀ l v, p.usableProbe = some l → c.journal.expected l = some v →
          d.seq = { c.seq with baseline := baseline } ∧
          d.ops =
            { c.ops with
              capture := none
              probe := some { glitch := true, loc := l, failures := 0 }
              glitchWait := none } ∧
          t.Wants k .sequencer { purpose := .probe, target := { loc := l, length := 1 }, data := none }) ∧
        ((∀ l v, p.usableProbe = some l → c.journal.expected l ≠ some v) →
          s.EntersBooting t k ∧
          (s.onSeq k fun q => { q with baseline := baseline }).BeginsRecovery t k .silent ∧
          d.seq.baseline = baseline ∧ d.ops.capture = none ∧ d.journal = { c.journal with target := none } ∧
          s.AnswersWaiter t k false))

/-- R33, R70, R98, R100, R112, R113, R160 to R162, R164, R165, R168 to R170: a report of a lane sample. A COMPLETE one judges the lanes; in VERIFY it
makes the serving check when every required lane is LIT; in MONITOR a lane that changed latches LIGHT, one that went dark counts, and
DIM follows the required lanes. A failed one is raised again after the retry interval; an exhausted one in MONITOR counts, and the eighth
in a row starts a SILENT recovery, concealed where R113 says so, in BOOTING with its boot wait, and a host of the cage that waits behind
the burst is answered on the new path (R23). Bytes received fill the cache.
The serving check as a step of its own is read from the table by inference (assumption 14). -/
def Obligations.SampleReportIsJudged : Prop :=
  ∀ (s : State) (k : CageId) (b : Burst) (x : Sample), s.inReset = false → s.Reports k b →
    b.request.purpose = .sample → (s.cage k).light.sample = some x →
    let c := s.cage k
    let p := s.profileOf k
    let l := c.light
    let raw (n : Fin 8) := 256 * (b.received.getD (2 * n.val) 0#8).toNat + (b.received.getD (2 * n.val + 1) 0#8).toNat
    let after : Vector Lane 8 :=
      Vector.ofFn fun n : Fin 8 => if n.val < x.lanes then l.lanes[n].judge p.lane (raw n) else l.lanes[n]
    let needed (n : Fin 8) := p.lane.required.getLsbD n.val = true ∧ n.val < p.lanes
    let allLit := ∀ n, needed n → after[n].lit = true
    let darkened (n : Fin 8) := l.lanes[n].lit = true ∧ after[n].lit = false
    let changed := ∃ n : Fin 8, l.lanes[n].lit ≠ after[n].lit
    let dim := if ∃ n, needed n ∧ darkened n then true else if allLit then false else c.seq.dim
    let failed := b.outcome = some .nacked ∨ b.outcome = some .stalled
    let period (ms : Nat) : Option Timer := some { duration := ms, elapsed := 0 }
    ∃ t, exec (.burstEnd (groupOf k)) s = .next t ∧ CageAndBus k { s with cache := t.cache } t ∧
      let d := t.cage k
      t.cache =
          (if b.outcome = some .complete ∨ b.outcome = some .stalled then
            fillLines k (p.cacheBytes b.bank b.page b.request.target.loc.offset b.received) s.cache
          else s.cache) ∧
      d.ledger = c.ledger ∧ d.qual = c.qual ∧
      (b.outcome = some .complete → l.activity = .verify →
        d.light =
            (if allLit then
              { l with
                lanes := after, activity := .idle, sample := none, sampleTimer := none, lightTimeout := none }
            else { l with lanes := after, sample := none, sampleTimer := period (s.settings.lightPoll * 10) }) ∧
          d.seq = (if allLit then { c.seq with serveCheck := true } else c.seq) ∧
          d.events = c.events ∧ d.journal = c.journal) ∧
      (b.outcome = some .complete → l.activity = .monitor →
        d.light =
            { l with
              lanes := after, failedRun := 0, sample := none
              sampleTimer := period (s.settings.monitorPeriod * 100) } ∧
          d.seq = { c.seq with dim := dim } ∧ d.journal = c.journal ∧ d.ops = c.ops ∧
          d.events.flags =
            (if changed ∨ dim ≠ c.seq.dim then c.events.flags ||| 16#9 else c.events.flags) ∧
          (∀ n : Fin 8, d.events.counters[13 + n.val] =
            if darkened n then min 65535 (c.events.counters[13 + n.val] + 1)
            else c.events.counters[13 + n.val]) ∧
          ∀ n : Fin 13, d.events.counters[n.val] = c.events.counters[n.val]) ∧
      (failed → x.failures + 1 < s.settings.retryLimit →
        d.light =
            { l with
              sample :=
                some
                  { x with
                    failures := x.failures + 1
                    retry := period s.settings.retryInterval } } ∧
          d.seq = c.seq ∧ d.ops = c.ops ∧ d.journal = c.journal ∧ d.events.flags = c.events.flags) ∧
      (failed → s.settings.retryLimit ≤ x.failures + 1 → l.activity = .verify →
        d.light = { l with sample := none, sampleTimer := period (s.settings.lightPoll * 10) } ∧
          d.seq = c.seq ∧ d.ops = c.ops ∧ d.journal = c.journal) ∧
      (failed → s.settings.retryLimit ≤ x.failures + 1 → l.activity = .monitor → l.failedRun < 7 →
        d.light =
            { l with
              failedRun := l.failedRun + 1, sample := none
              sampleTimer := period (s.settings.monitorPeriod * 100) } ∧
          d.seq = c.seq ∧ d.ops = c.ops ∧ d.journal = c.journal) ∧
      (failed → s.settings.retryLimit ≤ x.failures + 1 → l.activity = .monitor → l.failedRun = 7 →
        s.EntersBooting t k ∧ s.BeginsRecovery t k .silent ∧ d.seq.baseline = c.seq.baseline ∧
          d.light.activity = .idle ∧ d.light.failedRun = 8 ∧ d.light.lanes = l.lanes ∧
          d.journal = { c.journal with target := none } ∧ s.AnswersWaiter t k false)

/-- R33, R127, R140, R141, R160, R164: the expiries that make an agent want its burst again. A retry interval raises the same
burst, of a probe, a capture, an identification, a replay (its write with the record's data as it now stands, or its read-back) or a
sample; the poll timer, the sample timer and the probe timer raise theirs, or start again, or stop, where nothing is to be read.
That the profile is read as the agent begins wanting the burst is read from the rules by inference (assumption 16), and so is that a
probe timer still running when the probe period was written 0 starts a periodic probe (assumption 32). -/
def Obligations.ExpiriesRaiseTheirBurst : Prop :=
  ∀ (s : State) (k : CageId), s.inReset = false →
    let c := s.cage k
    let p := s.profileOf k
    (∀ (y : Timer) (x : Probe), c.ops.retry = some y → c.ops.probe = some x →
      ∃ t, exec (.retryIntervalExpiry k .sequencer) s = .next t ∧ CageAndBus k s t ∧
        (t.cage k).ops = { c.ops with retry := none } ∧ (t.cage k).seq = c.seq ∧
        (t.cage k).journal = c.journal ∧ (t.cage k).events = c.events ∧
        t.Wants k .sequencer
          { purpose := .probe, target := { loc := x.loc, length := 1 }, data := none }) ∧
    (∀ (y : Timer) (x : Capture) (i : Fin 4) (role : Role) (span : Target) (rest : List (Fin 4 × Role × Target)),
      c.ops.retry = some y → c.ops.probe = none → c.ops.capture = some x →
      x.todo = (i, role, span) :: rest →
      ∃ t, exec (.retryIntervalExpiry k .sequencer) s = .next t ∧ CageAndBus k s t ∧
        (t.cage k).ops = { c.ops with retry := none } ∧ (t.cage k).seq = c.seq ∧
        (t.cage k).journal = c.journal ∧ (t.cage k).events = c.events ∧
        t.Wants k .sequencer { purpose := .identity, target := span, data := none }) ∧
    (∀ (y : Timer) (x : Identification) (r : IdRead) (rest : List IdRead),
      c.ops.retry = some y → c.ops.probe = none → c.ops.capture = none → c.ops.identification = some x →
      x.todo = r :: rest →
      ∃ t, exec (.retryIntervalExpiry k .sequencer) s = .next t ∧ CageAndBus k s t ∧
        (t.cage k).ops = { c.ops with retry := none } ∧ (t.cage k).seq = c.seq ∧
        (t.cage k).journal = c.journal ∧ (t.cage k).events = c.events ∧
        t.Wants k .sequencer
          { purpose := match r with
              | .prefetch _ => .prefetch
              | .span _ _ _ | .power _ => .identity
            target := match r with
              | .span _ _ a | .power a | .prefetch a => a
            data := none }) ∧
    (∀ (y : Timer) (i : Nat) (r : Record) (u : Run) (us : List Run),
      c.ops.retry = some y → c.ops.probe = none → c.ops.capture = none → c.ops.identification = none →
      c.ops.cursor.position = some i → c.journal.list[i]? = some r → c.ops.cursor.runs = u :: us →
      (c.ops.cursor.phase = .write →
        ∃ t, exec (.retryIntervalExpiry k .sequencer) s = .next t ∧ CageAndBus k s t ∧
          (t.cage k).ops =
            { c.ops with retry := none, cursor := { c.ops.cursor with carried := u.bytes r } } ∧
          (t.cage k).seq = c.seq ∧ (t.cage k).journal = c.journal ∧ (t.cage k).events = c.events ∧
          t.Wants k .sequencer
            { purpose := .replayWrite, target := u.target r.key, data := some (u.bytes r) }) ∧
      (c.ops.cursor.phase = .readBack →
        ∃ t, exec (.retryIntervalExpiry k .sequencer) s = .next t ∧ CageAndBus k s t ∧
          (t.cage k).ops = { c.ops with retry := none } ∧
          (t.cage k).seq = c.seq ∧ (t.cage k).journal = c.journal ∧ (t.cage k).events = c.events ∧
          t.Wants k .sequencer { purpose := .readBack, target := u.target r.key, data := none })) ∧
    (∀ (x : Sample) (y : Timer), c.light.sample = some x → x.retry = some y →
      ∃ t, exec (.retryIntervalExpiry k .monitor) s = .next t ∧ CageAndBus k s t ∧
        (t.cage k).light = { c.light with sample := some { x with retry := none } } ∧
        (t.cage k).seq = c.seq ∧ (t.cage k).ops = c.ops ∧ (t.cage k).journal = c.journal ∧
        (t.cage k).events = c.events ∧ t.Wants k .monitor x.request) ∧
    (∀ (x : Polling) (y : Timer), c.ops.polling = some x → x.timer = some y →
      ∃ t, exec (.pollTimerExpiry k) s = .next t ∧ CageAndBus k s t ∧ (t.cage k).seq = c.seq ∧
        (t.cage k).journal = c.journal ∧ (t.cage k).events = c.events ∧
        (p.ready.present = false → (t.cage k).ops = { c.ops with polling := none }) ∧
        (p.ready.present = true →
          (t.cage k).ops =
              { c.ops with
                polling := some { mask := p.ready.mask, value := p.ready.value, timer := none } } ∧
            t.Wants k .sequencer
              { purpose := .poll, target := { loc := p.ready.loc, length := 1 }, data := none })) ∧
    (∀ y : Timer, c.light.sampleTimer = some y →
      ∃ t, exec (.sampleTimerExpiry k) s = .next t ∧ CageAndBus k s t ∧ (t.cage k).seq = c.seq ∧
        (t.cage k).ops = c.ops ∧ (t.cage k).journal = c.journal ∧ (t.cage k).events = c.events ∧
        (t.cage k).light.lanes = c.light.lanes ∧
        (p.lanes = 0 → (t.cage k).light.sample = none ∧
          (c.light.activity = .monitor →
            (t.cage k).light.sampleTimer =
              some { duration := s.settings.monitorPeriod * 100, elapsed := 0 }) ∧
          (c.light.activity = .verify →
            (t.cage k).light.sampleTimer =
              some { duration := s.settings.lightPoll * 10, elapsed := 0 })) ∧
        (∀ n, p.lanes = n + 1 → (t.cage k).light.sampleTimer = none ∧
          t.Wants k .monitor
            { purpose := .sample, target := { loc := p.lane.lane0.loc, length := 2 * (n + 1) },
              data := none })) ∧
    (∀ y : Timer, c.seq.probeTimer = some y →
      ∃ t, exec (.probeTimerExpiry k) s = .next t ∧
        (c.ops.probe.isSome = true ∨ c.ops.glitchWait.isSome = true ∨ c.ops.capture.isSome = true →
          OnlyCage k s t ∧ (t.cage k).ops = c.ops ∧ (t.cage k).events = c.events ∧
          (t.cage k).seq =
            { c.seq with
              probeTimer :=
                if s.settings.probePeriod = 0 then none
                else some { duration := s.settings.probePeriod * 1000, elapsed := 0 } }) ∧
        (∀ l v, c.ops.probe = none → c.ops.glitchWait = none → c.ops.capture = none →
          p.usableProbe = some l → c.journal.expected l = some v →
          CageAndBus k s t ∧ (t.cage k).seq = { c.seq with probeTimer := none } ∧
          (t.cage k).ops = { c.ops with probe := some { glitch := false, loc := l, failures := 0 } } ∧
          (t.cage k).events = c.events ∧
          t.Wants k .sequencer
            { purpose := .probe, target := { loc := l, length := 1 }, data := none }) ∧
        (c.ops.probe = none → c.ops.glitchWait = none → c.ops.capture = none →
          (∀ l v, p.usableProbe = some l → c.journal.expected l ≠ some v) →
          OnlyCage k s t ∧ (t.cage k).ops = { c.ops with retry := none } ∧
          (t.cage k).events = c.events ∧ (t.cage k).journal = c.journal ∧
          (t.cage k).seq =
            { c.seq with
              probeTimer :=
                if s.settings.probePeriod = 0 then none
                else some { duration := s.settings.probePeriod * 1000, elapsed := 0 } }))

/-! ## Replay, service and light (chapters 7, 8 and 10) -/

/-- R105, R106, R133, R134, R137: SETTLE_WAIT_END lets the replay go on: the next PENDING record with a run becomes the target and its
first write is asked for; with none up to the tail and one behind the cursor a new pass begins at the head; and when no record is left
PENDING, replay ends at the serving check or in VERIFYING. A PENDING record without a run finishes as the cursor passes it.
The serving check as a step of its own, due after this event, is read from the table by inference (assumption 14). -/
def Obligations.SettleWaitEndGoesOn : Prop :=
  ∀ (s : State) (k : CageId) (i : Nat) (y : Timer), s.inReset = false →
    (s.cage k).ops.cursor.timer = some y → (s.cage k).ops.cursor.position = some i →
    let c := s.cage k
    let x := c.ops.cursor
    ∃ t, exec (.settleWaitEnd k) s = .next t ∧ CageAndBus k s t ∧
      s.CursorGoesOn t k c.journal c.events c.seq (i + 1) x.passes x.resumed ∧
      let d := t.cage k
      SameButSlot
        { c with
          seq := d.seq, light := d.light, journal := d.journal, events := d.events
          ops := { c.ops with cursor := d.ops.cursor } } d

/-- R62, R74, R98, R107, R119, R131, R167: SERVING_CHECK waits while a posted write is in progress; with a record PENDING it starts a
resumed replay, every mark standing; otherwise the cage enters SERVING and its recovery ends. A FORCED recovery that ends so frees the
cage's lines, makes the standing MATCHED, clears FROZEN and starts a baseline capture.
The check as a step of its own is read from the table by inference (assumption 14), and so is when the lanes of a
verification are kept (assumption 12). That the check asks for PENDING records only, so that a FIRST recovery whose journal holds a
FAILED record enters SERVING, is the model's reading of R107, whose sentence names FAILED too (assumption 27). -/
def Obligations.ServingCheckEntersService : Prop :=
  ∀ (s : State) (k : CageId), s.inReset = false → (s.cage k).seq.serveCheck = true →
    let c := s.cage k
    let p := s.profileOf k
    (s.postedInFlight k = true →
      ∃ t, exec (.servingCheck k) s = .next t ∧ t.cages = s.cages ∧ t.groups = s.groups ∧ SameDevice s t) ∧
    (s.postedInFlight k = false → c.seq.recovery ≠ some .first → (∃ r ∈ c.journal.list, r.mark = .pending) →
      ∃ t, exec (.servingCheck k) s = .next t ∧ CageAndBus k s t ∧
        s.CursorGoesOn t k c.journal c.events { c.seq with state := .replaying, serveCheck := false } 0 1
          true) ∧
    (∀ (kind : RecoveryKind) (n : Nat), s.postedInFlight k = false →
      (∀ r ∈ c.journal.list, r.mark ≠ .pending) → c.seq.recovery = some kind → kind ≠ .forced →
      c.seq.clock = some n →
      ∃ t, exec (.servingCheck k) s = .next t ∧ CageAndBus k s t ∧
        let d := t.cage k
        d.seq =
            { c.seq with
              state := .serving
              recovery := none
              clock := none
              holdReason := .none
              concealed := false
              concealTimer := none
              serveCheck := false
              probeTimer :=
                if s.settings.probePeriod = 0 then none
                else some { duration := s.settings.probePeriod * 1000, elapsed := 0 } } ∧
        d.events.lastRecovery = min 65535 (n / 100) ∧ d.events.flags = c.events.flags ||| 2#9 ∧
        d.events.counters = c.events.counters.set 4 (min 65535 (c.events.counters[4] + 1)) ∧
        d.journal =
          { c.journal with
            frozen :=
              if c.seq.outcome = .same ∨ c.seq.outcome = .unchecked then false else c.journal.frozen } ∧
        d.ledger = c.ledger ∧ d.light.activity = .monitor ∧
        (c.seq.verified = true → d.light.lanes = c.light.lanes) ∧
        (∀ m, p.lanes = m + 1 →
          t.Wants k .monitor
            { purpose := .sample, target := { loc := p.lane.lane0.loc, length := 2 * (m + 1) },
              data := none })) ∧
    ∀ n : Nat, s.postedInFlight k = false → (∀ r ∈ c.journal.list, r.mark ≠ .pending) →
      c.seq.recovery = some .forced → c.seq.clock = some n → c.ops.probe = none →
      c.ops.glitchWait = none →
      ∃ t, exec (.servingCheck k) s = .next t ∧
        CageAndBus k
          { s with cache := s.cache.filter fun l => decide (l.owner ≠ k), ties := s.ties + 1 } t ∧
        let d := t.cage k
        d.seq =
            { c.seq with
              state := .serving
              recovery := none
              clock := none
              holdReason := .none
              concealed := false
              concealTimer := none
              serveCheck := false
              baseline := if p.captureSpans = [] then some (Vector.replicate 4 none) else none
              probeTimer :=
                if s.settings.probePeriod = 0 then none
                else some { duration := s.settings.probePeriod * 1000, elapsed := 0 } } ∧
        d.standing = .matched ∧ d.journal = { c.journal with frozen := false } ∧
        d.events =
          { c.events with
            lastRecovery := min 65535 (n / 100)
            flags := c.events.flags ||| 2#9
            counters := c.events.counters.set 4 (min 65535 (c.events.counters[4] + 1)) } ∧
        d.ledger = c.ledger ∧ d.qual = c.qual ∧ d.light.activity = .monitor ∧
        (c.seq.verified = true → d.light.lanes = c.light.lanes) ∧
        (∀ m, p.lanes = m + 1 →
          t.Wants k .monitor
            { purpose := .sample, target := { loc := p.lane.lane0.loc, length := 2 * (m + 1) },
              data := none }) ∧
        (p.captureSpans = [] → d.ops.capture = none) ∧
        ∀ x rest, p.captureSpans = x :: rest →
          (∃ y, d.ops.capture = some y ∧ y.origin = .forced ∧ y.todo = x :: rest ∧ y.held = [] ∧
            (∀ m : Fin 4, y.got[m] = none) ∧ y.failures = 0) ∧
          t.Wants k .sequencer { purpose := .identity, target := x.2.2, data := none }

/-- R90, R93, R100, R106, R114, R115, R170: RESET_PULSE_END ends the pulse; an ENGINE-owned line is released, and a cage in BOOTING
begins its boot wait. CONCEAL_TIMER_EXPIRY reveals, REVEAL_MINIMUM_EXPIRY lets HPD follow the state again, and LIGHT_TIMEOUT
ends verification dim and makes the serving check due.
The serving check as a step of its own is read from the table by inference (assumption 14). -/
def Obligations.PulseRevealAndLightTimersExpire : Prop :=
  ∀ (s : State) (k : CageId) (y : Timer), s.inReset = false →
    let c := s.cage k
    let p := s.profileOf k
    (c.lines.pulse = some y → c.seq.state = .booting → c.lines.mrstOwner = .engine →
      ∃ t, exec (.resetPulseEnd k) s = .next t ∧ CageAndBus k s t ∧ (t.cage k).lines.pulse = none ∧
        (t.cage k).lines.mrst = false ∧
        (t.cage k).seq =
          { c.seq with
            waitTimer :=
              if p.ready.present then
                some (.bootTimeout, { duration := s.settings.bootTimeout * 1000, elapsed := 0 })
              else some (.bootDelay, { duration := p.bootDelay * 100, elapsed := 0 }) } ∧
        (p.ready.present = true →
          t.Wants k .sequencer
            { purpose := .poll, target := { loc := p.ready.loc, length := 1 }, data := none }) ∧
        (t.cage k).journal = c.journal ∧ (t.cage k).ledger = c.ledger ∧ (t.cage k).events = c.events ∧
        (t.cage k).qual = c.qual ∧ (t.cage k).light = c.light ∧ (t.cage k).ctx = c.ctx) ∧
    (c.lines.pulse = some y → c.seq.state ≠ .booting →
      ∃ t, exec (.resetPulseEnd k) s = .next t ∧ OnlyCage k s t ∧
        t.cage k = Cage.driveLines { c with lines := { c.lines with pulse := none } }) ∧
    (c.seq.concealTimer = some y → c.seq.concealed = true →
      ∃ t, exec (.concealTimerExpiry k) s = .next t ∧ OnlyCage k s t ∧
        t.cage k =
          Cage.driveLines
            { c with
              seq :=
                { c.seq with
                  concealed := false
                  concealTimer := none
                  revealTimer := some { duration := s.settings.revealMinimum * 10, elapsed := 0 } }
              events := { c.events with flags := c.events.flags ||| 8#9 } } ∧
        (t.cage k).lines.hpd = false) ∧
    (c.seq.revealTimer = some y →
      ∃ t, exec (.revealMinimumExpiry k) s = .next t ∧ OnlyCage k s t ∧
        t.cage k = Cage.driveLines { c with seq := { c.seq with revealTimer := none } } ∧
        ((t.cage k).lines.hpd = true ↔
          c.seq.state = .serving ∨ c.seq.state = .held ∨ c.seq.concealed = true)) ∧
    (c.light.lightTimeout = some y →
      ∃ t, exec (.lightTimeout k) s = .next t ∧ CageAndBus k s t ∧
        (t.cage k).seq = { c.seq with dim := true, serveCheck := true } ∧
        (t.cage k).light.activity = .idle ∧ (t.cage k).light.lightTimeout = none ∧
        (t.cage k).light.sampleTimer = none ∧ (t.cage k).light.lanes = c.light.lanes ∧
        (t.cage k).events =
          { c.events with
            flags := if c.seq.dim then c.events.flags else c.events.flags ||| 16#9 } ∧
        (t.cage k).journal = c.journal ∧ (t.cage k).ledger = c.ledger ∧ (t.cage k).ops = c.ops)

/-- R126: an identification compares slot by slot: a difference of occupancy, role, length or of a MODEL slot's bytes is FOREIGN,
else a difference of a UNIT slot's bytes is KIN, else the outcome is SAME. -/
def Obligations.ComparisonJudgesEverySlot : Prop :=
  ∀ was now : Baseline,
    let foreign :=
      ∃ i : Fin 4, was[i].isSome ≠ now[i].isSome ∨
        ∃ a b, was[i] = some a ∧ now[i] = some b ∧
          (a.role ≠ b.role ∨ a.bytes.length ≠ b.bytes.length ∨ (a.role = .model ∧ a.bytes ≠ b.bytes))
    (foreign → compareBaseline was now = .foreign) ∧
      (¬foreign → was ≠ now → compareBaseline was now = .kin) ∧
      (was = now → compareBaseline was now = .same)

/-- R161, R162: one lane judged: its runs count the samples at or above the lit threshold and below the dark one, a DARK lane becomes
LIT after its lit count of the first and a LIT lane DARK after its dark count of the second, and the band is the number of binary
digits. -/
def Obligations.LaneIsJudgedByItsRuns : Prop :=
  ∀ (l : Lane) (p : LaneSettings) (x : Nat), p.dark < p.lit → 1 ≤ p.litCount → 1 ≤ p.darkCount →
    let m := l.judge p x
    m.litRun ≤ 15 ∧ m.darkRun ≤ 15 ∧ (m.litRun = 0 ∨ m.darkRun = 0) ∧
      (p.lit ≤ x → m.litRun = (if l.litRun < 15 then l.litRun + 1 else 15) ∧ m.darkRun = 0) ∧
      (x < p.dark → m.darkRun = (if l.darkRun < 15 then l.darkRun + 1 else 15) ∧ m.litRun = 0) ∧
      (p.dark ≤ x → x < p.lit → m.litRun = 0 ∧ m.darkRun = 0 ∧ m.lit = l.lit) ∧
      (l.lit = false → (m.lit = true ↔ p.litCount ≤ m.litRun)) ∧
      (l.lit = true → (m.lit = false ↔ p.darkCount ≤ m.darkRun)) ∧
      (x = 0 → m.band = 0) ∧ (x ≠ 0 → 2 ^ (m.band - 1) ≤ x ∧ x < 2 ^ m.band)

/-! ## The host's commands (R188) -/

/-- R10, R23, R24, R90, R93, R98, R100, R112, R113, R117, R121: RESUME in HELD and MODULE_RESET in SERVING or HELD, with MRST the
engine's: a reset pulse begins at once, the belief is UNKNOWN, and the cage is in BOOTING in a recovery of its kind, its charge and grant kept. Only a
MODULE_RESET from SERVING may be concealed, with its conceal timer started. The boot wait awaits the end of the pulse. RESUME with MRST
HOST-owned makes no pulse, and the boot wait begins at once, or awaits the host's release of the line. A host of the cage that waits is
answered on the new path, and its transaction that holds the bus loses it, as `State.LeavesService` says (assumptions 9, 22, 31). -/
def Obligations.ResumeAndModuleResetPulseTheModule : Prop :=
  (∀ (s : State) (k : CageId) (i : Instr) (code : Byte) (kind : RecoveryKind), s.inReset = false →
    (s.cage k).lines.mrstOwner = .engine →
    ((i = .resume k ∧ code = 1#8 ∧ kind = .resume ∧ (s.cage k).seq.state = .held) ∨
      (i = .moduleReset k ∧ code = 5#8 ∧ kind = .moduleReset ∧
        ((s.cage k).seq.state = .serving ∨ (s.cage k).seq.state = .held))) →
    ∃ t, exec i s = .next t ∧ CageAndBus k s t ∧
      let c := s.cage k
      let d := t.cage k
      d.seq.state = .booting ∧ s.BeginsRecovery t k kind ∧ d.seq.waitTimer = none ∧
      d.lines.pulse = some { duration := s.settings.resetPulse, elapsed := 0 } ∧ d.lines.mrst = true ∧
      d.ctx.belief = none ∧ d.ctx.hostPtr = c.ctx.hostPtr ∧ d.ledger = c.ledger ∧ d.qual = c.qual ∧
      d.journal = { c.journal with target := none } ∧ d.seq.baseline = c.seq.baseline ∧
      d.light.activity = .idle ∧ d.binding = c.binding ∧ d.events.counters = c.events.counters ∧
      d.control = { c.control with command := code, result := 1#8 } ∧ s.LeavesService t k false true True) ∧
  ∀ (s : State) (k : CageId), s.inReset = false → (s.cage k).lines.mrstOwner = .host →
    (s.cage k).seq.state = .held →
    ∃ t, exec (.resume k) s = .next t ∧ CageAndBus k s t ∧ s.EntersBooting t k ∧
      s.BeginsRecovery t k .resume ∧
      let c := s.cage k
      let d := t.cage k
      d.lines.pulse = c.lines.pulse ∧ d.lines.mrst = c.lines.mrst ∧ d.ledger = c.ledger ∧ d.qual = c.qual ∧
      d.journal = { c.journal with target := none } ∧ d.seq.baseline = c.seq.baseline ∧
      d.light.activity = .idle ∧ d.events.counters = c.events.counters ∧
      d.control = { c.control with command := 1#8, result := 1#8 } ∧
      s.LeavesService t k false false
        (c.lines.mrst = true ∨ c.lines.pulse ≠ none ∨ (s.profileOf k).ready.present = false)

/-- R95, R120, R141, R164: RELEASE in HELD puts the cage in SERVING without replay, starts the probe timer and monitoring, and keeps the
rest. It does so at once also while a concealed write transfer of the cage is open, where R10 would have it wait (assumption 23). -/
def Obligations.ReleaseServesWithoutReplay : Prop :=
  ∀ (s : State) (k : CageId), s.inReset = false → (s.cage k).seq.state = .held →
    ∃ t, exec (.release k) s = .next t ∧ CageAndBus k s t ∧
      let c := s.cage k
      let d := t.cage k
      d.seq =
          { c.seq with
            state := .serving
            holdReason := .none
            probeTimer :=
              if s.settings.probePeriod = 0 then none
              else some { duration := s.settings.probePeriod * 1000, elapsed := 0 } } ∧
      d.journal = c.journal ∧ d.ledger = c.ledger ∧ t.cache = s.cache ∧ d.standing = c.standing ∧
      d.events = c.events ∧ d.qual = c.qual ∧ d.ctx = c.ctx ∧ d.ops = c.ops ∧
      d.light.activity = .monitor ∧
      (∀ m, (s.profileOf k).lanes = m + 1 →
        t.Wants k .monitor
          { purpose := .sample, target := { loc := (s.profileOf k).lane.lane0.loc, length := 2 * (m + 1) },
            data := none }) ∧
      (d.lines.hpd = true ↔ c.seq.revealTimer = none ∨ c.seq.concealed = true) ∧
      d.control = { c.control with command := 4#8, result := 1#8 }

/-- R63, R76, R118, R131: ADOPT in SERVING or HELD empties the journal, keeps the cage's VALID identity lines and frees its others,
makes the standing MATCHED, and starts the baseline capture. A span whose bytes VALID lines cover is taken from them; when all are, or
the profile has none, the new baseline is present at once; else the first span not covered is read, once no probe is under way. From
HELD the cage serves, at once also while a concealed write transfer of the cage is open, where R10 would have it wait (assumption 23).
Where a glitch probe waited for a capture and the new capture ends at once, the glitch probe runs, finds no expected byte in the
emptied journal, and a SILENT recovery begins (R140, R142), which takes the bus from a host of the cage (R10, R23; assumptions 9, 22). -/
def Obligations.AdoptMakesTheModuleTheReference : Prop :=
  ∀ (s : State) (k : CageId), s.inReset = false →
    let c := s.cage k
    let spans := (s.profileOf k).captureSpans
    let taken (xs : List (Fin 4 × Role × Target)) (b : Baseline) :=
      ∀ n : Fin 4,
        b[n] =
          (xs.find? fun y => decide (y.1 = n)).bind fun y =>
            (s.coveredSpan k y.2.2).map fun v => { role := y.2.1, bytes := v }
    let covered (xs : List (Fin 4 × Role × Target)) := ∀ y ∈ xs, (s.coveredSpan k y.2.2).isSome = true
    let adopted (t : State) :=
      exec (.adopt k) s = .next t ∧ (∀ j, j ≠ k → SameButSlot (s.cage j) (t.cage j)) ∧
        (∀ h, h ≠ groupOf k → t.group h = s.group h) ∧
        (∀ l, l ∈ t.cache ↔
          l ∈ s.cache ∧ (l.owner ≠ k ∨ (l.state = .valid ∧ (s.profileOf k).spanCovers l.key = true))) ∧
        t.committed = s.committed ∧ t.queue = s.queue ∧ t.settings = s.settings ∧
        t.profiles = s.profiles ∧
        let d := t.cage k
        d.journal = { c.journal with list := [], incomplete := false, frozen := false, target := none } ∧
          d.standing = .matched ∧ d.ledger = c.ledger ∧ d.qual = c.qual ∧
          d.control = { c.control with command := 2#8, result := 1#8 }
    (c.seq.state = .serving ∨ c.seq.state = .held → c.ops.glitchWait ≠ some .capture ∨ ¬covered spans →
      ∃ t, adopted t ∧
        let d := t.cage k
        d.seq.state = .serving ∧ d.seq.recovery = c.seq.recovery ∧
        (c.seq.state = .held → d.seq.holdReason = .none) ∧ d.events = c.events ∧
        (covered spans → ∃ b, d.seq.baseline = some b ∧ taken spans b ∧ d.ops.capture = none) ∧
        ∀ xs x rest, spans = xs ++ x :: rest → covered xs → s.coveredSpan k x.2.2 = none →
          d.seq.baseline = none ∧
            (∃ y, d.ops.capture = some y ∧ y.origin = .adopt ∧ y.todo = x :: rest ∧ taken xs y.got ∧
              y.failures = 0) ∧
            (c.ops.probe = none → c.ops.glitchWait ≠ some .report →
              t.Wants k .sequencer { purpose := .identity, target := x.2.2, data := none })) ∧
    (c.seq.state = .serving → c.ops.glitchWait = some .capture → covered spans →
      ∃ t, adopted t ∧
        let d := t.cage k
        d.seq.state = .booting ∧ d.seq.recovery = some .silent ∧ d.seq.clock = some 0 ∧
          d.ops.capture = none ∧ d.ops.glitchWait = none ∧ d.light.activity = .idle ∧
          s.LeavesService t k false false True ∧ ∃ b, d.seq.baseline = some b ∧ taken spans b)

/-- R98, R104 to R106, R108, R119, R133, R137, R146 to R151: FORCE_REPLAY in HELD. With a grant held it starts a FORCED recovery at
REPLAYING that writes the journal as it stands, incomplete or not, every mark PENDING, or has nothing to write and goes on as a replay
that has finished. Without one it goes on to power: with a HOST-owned low-power line the charge is set at once and replay starts; over
its ceiling the cage is held again; else it joins the wait queue after every entry of its own priority or higher, and waits, or ramps at
once where it fits, its ramp wait begun. Where it leaves HELD a host of the cage that waits is answered on the new path, and its
transaction that holds the bus loses it, as `State.LeavesService` says (R10, R23, R24; assumptions 9, 22).
That a cage held again over its ceiling cuts no transfer is read from the rules by inference (assumption 20), and so is that the
declared power is the one the cage's latest identification left, be it of a module since removed (assumption 34). -/
def Obligations.ForceReplayWritesTheJournal : Prop :=
  ∀ (s : State) (k : CageId), s.inReset = false → (s.cage k).seq.state = .held →
    let c := s.cage k
    let q : Sequencer :=
      { c.seq with
        state := .replaying, recovery := some .forced, clock := some 0, holdReason := .none, concealed := false
        concealTimer := none, dim := false, waitTimer := none, probeTimer := none, serveCheck := false
        verified := false }
    let events : Events :=
      { c.events with flags := if c.seq.dim then c.events.flags ||| 16#9 else c.events.flags }
    let done := { c.control with command := 3#8, result := 1#8 }
    (c.ledger.grant = true →
      ∃ t, exec (.forceReplay k) s = .next t ∧ CageAndBus k s t ∧ s.BeginsRecovery t k .forced ∧
        s.StartsReplay t k events q ∧ (t.cage k).ledger = c.ledger ∧ (t.cage k).control = done ∧
        s.LeavesService t k false false True) ∧
    let w := match c.seq.declared with
      | some n => (n.toNat * (100 + s.settings.margin) + 99) / 100
      | none => c.settings.ceiling
    let x := if w < s.settings.idleCharge then s.settings.idleCharge else w
    (c.ledger.grant = false → c.lines.mlowOwner = .engine → c.settings.ceiling < x →
      ∃ t, exec (.forceReplay k) s = .next t ∧ CageAndBus k s t ∧
        (t.cage k).seq.state = .held ∧ (t.cage k).seq.holdReason = .overCeiling ∧
        (t.cage k).seq.recovery = none ∧
        (t.cage k).ledger = { c.ledger with computed := some x, overCeiling := true } ∧
        (t.cage k).events.counters = c.events.counters.set 5 (min 65535 (c.events.counters[5] + 1)) ∧
        (t.cage k).control = done ∧
        ((s.group (groupOf k)).owner ≠ .idle → t.group (groupOf k) = s.group (groupOf k))) ∧
    let taken (t : State) :=
      (∀ j, j ≠ k → Untouched (s.cage j) (t.cage j)) ∧ t.profiles = s.profiles ∧ t.settings = s.settings ∧
        t.cache = s.cache ∧ s.BeginsRecovery t k .forced ∧ (t.cage k).control = done ∧
        s.LeavesService t k false false True
    (∀ xs ys, c.ledger.grant = false → c.lines.mlowOwner = .engine → x ≤ c.settings.ceiling →
      s.queue = xs ++ ys → (∀ e ∈ xs, c.settings.priority ≤ e.priority) →
      (∀ e ∈ ys.head?, e.priority < c.settings.priority) →
      (∀ e ∈ s.queue, e.cage ≠ k ∧
        s.settings.budget + (s.cage e.cage).ledger.charge <
          s.committed + (s.cage e.cage).ledger.computed.getD 0) →
      s.settings.budget + c.ledger.charge < s.committed + x →
      ∃ t, exec (.forceReplay k) s = .next t ∧ taken t ∧ (t.cage k).seq = { q with state := .admitting } ∧
        t.queue = xs ++ { cage := k, priority := c.settings.priority, passed := 0 } :: ys ∧
        t.committed = s.committed ∧ t.counters = s.counters ∧ (t.cage k).journal.list = c.journal.list ∧
        (t.cage k).ledger = { c.ledger with computed := some x, overCeiling := false } ∧
        (t.cage k).events.flags.getLsbD 8 = true) ∧
    (c.ledger.grant = false → c.lines.mlowOwner = .engine → x ≤ c.settings.ceiling → s.queue = [] →
      s.committed + x ≤ s.settings.budget + c.ledger.charge →
      ∃ t, exec (.forceReplay k) s = .next t ∧ taken t ∧ t.EntersRamping k ∧ t.queue = [] ∧
        t.committed = s.committed - c.ledger.charge + x ∧
        t.counters[0] = min 65535 (s.counters[0] + 1) ∧ (t.cage k).journal.list = c.journal.list ∧
        (t.cage k).ledger = { charge := x, grant := true, computed := some x, overCeiling := false }) ∧
    (c.ledger.grant = false → c.lines.mlowOwner = .host → s.queue = [] →
      ∃ t, exec (.forceReplay k) s = .next t ∧ taken t ∧ s.StartsReplay t k events q ∧
        t.queue = [] ∧ t.committed = s.committed - c.ledger.charge + x ∧
        (t.cage k).ledger =
          { c.ledger with
            charge := x, computed := some x, overCeiling := decide (c.settings.ceiling < x) })

/-- R31, R63, R75, R114, R122, R131, R141, R142, R164: CAGE_CLEAR in VACANT, SERVING or HELD empties the journal, frees the cage's
lines and reveals a concealed recovery; state, charge and counters stand. In VACANT the baseline becomes absent; in SERVING and HELD
it is captured anew: at once where the profile has no identity span, else the first span is read. A burst of the cage is aborted; a
periodic probe ends and its timer starts again, a glitch probe waits for the capture, and a sample with a request or a burst ends and
its timer starts again. A burst whose last STOP is sent is over, and its bus passes on: to the waiting host, to the first request left,
else to nobody. Without an identity span the capture is over at once, and a glitch probe that waits for it finds no expected byte in the
emptied journal: a SILENT recovery begins (R98, R100, R112, R113, R140), which takes the bus from a host of the cage (R10, R23;
assumptions 9, 22). That an aborted burst keeps the bus for the byte that is on it, and that one between its last STOP and its
BURST_END is aborted like any other and counts nothing, are the model's readings (assumptions 9 and 29). -/
def Obligations.CageClearForgetsTheModule : Prop :=
  ∀ (s : State) (k : CageId), s.inReset = false →
    let c := s.cage k
    let g := groupOf k
    let served := c.seq.state = .serving ∨ c.seq.state = .held
    let spans := (s.profileOf k).captureSpans
    let glitch := c.ops.glitchWait ≠ none ∨ ∃ x, c.ops.probe = some x ∧ x.glitch = true
    let emptied := { c.journal with list := [], incomplete := false, frozen := false, target := none }
    (c.seq.state = .serving → spans = [] → glitch →
      ∃ t w, exec (.cageClear k) s = .next t ∧ (∀ j, j ≠ k → SameButSlot (s.cage j) (t.cage j)) ∧
        (∀ h, h ≠ g → t.group h = s.group h) ∧
        SameDevice { s with cache := s.cache.filter fun l => decide (l.owner ≠ k) } t ∧
        let d := t.cage k
        let shown : Option Timer := some { duration := s.settings.revealMinimum * 10, elapsed := 0 }
        s.EntersBooting t k ∧
        (s.onSeq k fun q =>
          { q with
            baseline := some w, revealTimer := if q.concealed then shown else q.revealTimer }).BeginsRecovery
          t k .silent ∧
        d.seq.baseline = some w ∧ (∀ n : Fin 4, w[n] = none) ∧ d.standing = .matched ∧ d.journal = emptied ∧
        d.ops.capture = none ∧ d.ops.probe = none ∧ d.ops.glitchWait = none ∧ d.light.activity = .idle ∧
        d.events.counters = c.events.counters ∧ d.ledger = c.ledger ∧ d.qual = c.qual ∧
        d.control = { c.control with command := 6#8, result := 1#8 } ∧
        ((s.group g).burst = none → s.LeavesService t k false false True)) ∧
    (c.seq.state = .vacant ∨ (served ∧ (spans ≠ [] ∨ ¬glitch)) →
    ∃ t, exec (.cageClear k) s = .next t ∧ (∀ j, j ≠ k → SameButSlot (s.cage j) (t.cage j)) ∧
      (∀ h, h ≠ g → t.group h = s.group h) ∧
      SameDevice { s with cache := s.cache.filter fun l => decide (l.owner ≠ k) } t ∧
      let d := t.cage k
      d.journal = emptied ∧
      (c.seq.state = .vacant → d.standing = .unmatched ∧ d.seq.baseline = none) ∧
      (served → spans = [] → d.standing = .matched ∧ d.ops.capture = none ∧
        ∃ b, d.seq.baseline = some b ∧ ∀ n : Fin 4, b[n] = none) ∧
      (∀ x rest, served → spans = x :: rest → d.standing = c.standing ∧ d.seq.baseline = none ∧
        d.ops.glitchWait = (if c.ops.glitchWait.isSome || c.ops.probe.any (·.glitch) then some .capture else none) ∧
        (∃ y, d.ops.capture = some y ∧ y.origin = .clear ∧ y.todo = x :: rest ∧ y.held = [] ∧
          y.failures = 0 ∧ ∀ n : Fin 4, y.got[n] = none) ∧
        t.Wants k .sequencer { purpose := .identity, target := x.2.2, data := none }) ∧
      d.ops.probe = none ∧
      (∀ x, c.ops.probe = some x → x.glitch = false →
        d.seq.probeTimer =
          if s.settings.probePeriod = 0 then none
          else some { duration := s.settings.probePeriod * 1000, elapsed := 0 }) ∧
      (c.light.sample = none ∨ (∃ x y, c.light.sample = some x ∧ x.retry = some y) → d.light = c.light) ∧
      (∀ x, c.light.sample = some x → x.retry = none → c.light.activity = .monitor →
        d.light =
          { c.light with
            sample := none
            sampleTimer := some { duration := s.settings.monitorPeriod * 100, elapsed := 0 } }) ∧
      (∀ b, (s.group g).owner = .burst k → (s.group g).burst = some b → b.cage = k →
        d.ctx = { c.ctx with belief := none } ∧
          ((s.group g).down.wait = none → (s.group g).down.stalled = false → b.phase = .ended →
            t.PassedOn g ∧
              (c.slot = .running → c.seq.state = .vacant ∨ spans = [] →
                s.Chooses t g fun n =>
                  if cageAt g n = k then
                    nextInSlot
                      (c.slotQueue.filter fun y => decide (y.1 = .monitor) && c.light.sample.any (·.retry.isSome))
                  else (s.cage (cageAt g n)).slot)) ∧
          ((s.group g).down.wait.isSome = true ∨ (s.group g).down.stalled = true →
            (t.group g).owner = .burst k ∧
              (t.group g).burst =
                some { b with outcome := some .aborted, orphan := true, aborting := true })) ∧
      d.seq.state = c.seq.state ∧ d.seq.holdReason = c.seq.holdReason ∧
      d.seq.recovery = c.seq.recovery ∧ d.seq.concealed = false ∧
      (c.seq.concealed = true →
        d.seq.revealTimer = some { duration := s.settings.revealMinimum * 10, elapsed := 0 } ∧
          d.events.flags = c.events.flags ||| 8#9) ∧
      (c.seq.concealed = false →
        d.seq.revealTimer = c.seq.revealTimer ∧ d.events.flags = c.events.flags) ∧
      d.events.counters = c.events.counters ∧ d.ledger = c.ledger ∧ d.qual = c.qual ∧
      d.binding = c.binding ∧ d.control = { c.control with command := 6#8, result := 1#8 })

/-- R35, R43: BIND_PROFILE in VACANT or HELD, and a write of a select offset. Each cage whose select offsets change has its belief
UNKNOWN, and shadow bank 0 when its profile now has no bank-select offset; a burst under way keeps the offsets it took and leaves
the belief UNKNOWN. A bank-select offset equal to the page-select offset is none.
That a select offset written with its present value also makes the belief UNKNOWN is read from the rules by inference
(assumption 19), and so is that a resynchronisation under way leaves the belief UNKNOWN too (assumption 31); the argument byte written
with the command is assumption 5. -/
def Obligations.ChangedSelectOffsetsUnsettleTheBelief : Prop :=
  ∀ s : State, s.inReset = false →
    (∀ (k : CageId) (v : Byte) (q : ProfileId), q.val = v.toNat →
      ((s.cage k).seq.state = .vacant ∨ (s.cage k).seq.state = .held) →
      ∃ t, exec (.bindProfile k v) s = .next t ∧ (∀ j, j ≠ k → t.cage j = s.cage j) ∧
        (∀ h, h ≠ groupOf k → t.group h = s.group h) ∧ SameDevice s t ∧
        let c := s.cage k
        let d := t.cage k
        SameButSlot
          { c with
            binding := q
            control := { c.control with arg0 := v, command := 7#8, result := 1#8 }
            ctx :=
              if c.binding = q then c.ctx
              else
                { c.ctx with
                  belief := none
                  shadowBank := if (s.profile q).bankSelect = none then 0#8 else c.ctx.shadowBank } } d ∧
        (c.binding = q → t.groups = s.groups) ∧
        (c.binding ≠ q →
          t.group (groupOf k) = (s.group (groupOf k)).loseSelects fun j => decide (j = k))) ∧
    ∀ (p : ProfileId) (bank : Bool) (v : Byte),
      ∃ t, exec (.selectOffsetWrite p bank v) s = .next t ∧ SameDevice { s with profiles := t.profiles } t ∧
        (∀ q, q ≠ p → t.profile q = s.profile q) ∧
        let w := s.profile p
        let x := if v.toNat < 128 then v else 127#8
        (t.profile p =
          if bank then { w with bankSelect := if v = 255#8 ∨ x = w.pageSelect then none else some x }
          else { w with pageSelect := x, bankSelect := if w.bankSelect = some x then none else w.bankSelect }) ∧
        (∀ g, t.group g =
          (s.group g).loseSelects fun j => decide (groupOf j = g) && decide ((s.cage j).binding = p)) ∧
        ∀ k, ((s.cage k).binding ≠ p → t.cage k = s.cage k) ∧
          ((s.cage k).binding = p →
            SameButSlot
              { s.cage k with
                ctx :=
                  { (s.cage k).ctx with
                    belief := none
                    shadowBank :=
                      if (t.profile p).bankSelect = none then 0#8 else (s.cage k).ctx.shadowBank } }
              (t.cage k))

/-- R91, R92, R93, R154: OWN gives a module-side line to the host, or back to the engine at its engine level, the latch keeping its
level; a low-power line given back in HELD without a grant makes the charge the idle charge. LINE moves the latch of a HOST-owned
line; an assertion of MRST makes the belief UNKNOWN, starts a MODULE_RESET recovery in SERVING or HELD, concealed where R113 says so,
and restarts a recovery, and its release begins the boot wait. Where it starts one, a host of the cage that waits is answered on the new
path, and its transaction that holds the bus loses it, as `State.LeavesService` says (R10, R23, R24; assumptions 9, 22, 31).
The argument bytes written with the command are assumption 5. That an assertion of MRST in ADMITTING restarts the recovery follows R111
over the last sentence of R153 (assumption 35). -/
def Obligations.OwnAndLineMoveTheModuleLines : Prop :=
  ∀ (s : State) (k : CageId) (l : SideLine) (a b : Byte), s.inReset = false → s.LinesDriven →
    lineOf a = some l →
    let c := s.cage k
    (∀ o, ownerOf b = some o → (c.seq.state = .vacant ∨ c.seq.state = .held) →
      (c.lineOwner l = o ∨ o = .host ∨ c.lineLatch l = c.lineEngine l) →
      ∃ t, exec (.own k a b) s = .next t ∧
        let d := t.cage k
        d.control = { c.control with arg0 := a, arg1 := b, command := 8#8, result := 1#8 } ∧
        (c.lineOwner l ≠ o → (l = .mrst ∨ o = .host ∨ ∀ e ∈ s.queue, e.cage ≠ k) →
          d.lineLatch l = c.lineLatch l ∧ d.lineOwner l = o) ∧
        (l = .mrst ∨ o = .host ∨ c.lineOwner l = o ∨ c.seq.state = .vacant ∨ c.ledger.grant = true →
          OnlyCage k s t ∧ d = Cage.driveLines { c.setOwner l o with control := d.control }) ∧
        (l = .mlow → o = .engine → c.lineOwner l = .host → c.seq.state = .held → c.ledger.grant = false →
          (∀ e ∈ s.queue, e.cage ≠ k) →
          d.ledger = { c.ledger with charge := s.settings.idleCharge } ∧ d.seq = c.seq ∧
            d.journal = c.journal ∧ d.events = c.events ∧ d.qual = c.qual ∧
            (s.queue = [] ∨ c.ledger.charge ≤ s.settings.idleCharge →
              t.committed = s.committed - c.ledger.charge + s.settings.idleCharge))) ∧
    ∀ v, levelOf b = some v → c.lineOwner l = .host →
      ∃ t, exec (.line k a b) s = .next t ∧ (c.seq.state ≠ .admitting → CageAndBus k s t) ∧
        let d := t.cage k
        d.lineLatch l = v ∧ d.lineOwner l = .host ∧ d.ledger = c.ledger ∧ d.qual = c.qual ∧
        d.control = { c.control with arg0 := a, arg1 := b, command := 9#8, result := 1#8 } ∧
        (l = .mlow ∨ c.lineLatch l = v ∨ (v = false ∧ c.seq.state ≠ .booting) →
          OnlyCage k s t ∧ d = Cage.driveLines { c.setLatch l v with control := d.control }) ∧
        (l = .mrst → c.lineLatch l = true → v = false → c.seq.state = .booting → c.lines.pulse = none →
          d.ctx = c.ctx ∧ d.seq = { c.seq with waitTimer := d.seq.waitTimer } ∧
            t.WaitBegins k .bootTimeout .bootDelay s.settings.bootTimeout) ∧
        (l = .mrst → c.lineLatch l = false → v = true →
          d.ctx = { c.ctx with belief := none } ∧
          (c.seq.state = .vacant ∨ c.seq.state = .settling → d.seq = c.seq ∧ d.journal = c.journal) ∧
          (c.seq.state = .serving ∨ c.seq.state = .held → d.seq.state = .booting ∧
            s.BeginsRecovery t k .moduleReset ∧ d.seq.waitTimer = none ∧ d.ops.polling = none ∧
            s.LeavesService t k false true True) ∧
          (c.seq.state = .booting → d.seq = { c.seq with waitTimer := none } ∧ d.journal = c.journal) ∧
          (c.seq.state = .identifying ∨ c.seq.state = .ramping ∨ c.seq.state = .replaying ∨
              c.seq.state = .verifying →
            d.seq.state = .booting ∧ d.seq.recovery = c.seq.recovery ∧ d.seq.clock = c.seq.clock ∧
              d.seq.waitTimer = none ∧ d.journal = { c.journal with target := none }) ∧
          (c.seq.state = .admitting → d.seq.state = .booting ∧ d.seq.recovery = c.seq.recovery ∧
            d.seq.clock = c.seq.clock ∧ d.seq.waitTimer = none ∧ d.journal = { c.journal with target := none } ∧
            (∀ e ∈ t.queue, e.cage ≠ k) ∧ ∀ j, j ≠ k → Untouched (s.cage j) (t.cage j)))

/-- R181, R189: SNAPSHOT copies the counters and measurements of the cage, or the counters of the device, and zeroes the counters.
SET_MODE sets the mode, and a change to LEARN reveals every concealed recovery.
The argument byte written with the command is assumption 5. -/
def Obligations.SnapshotsAndModeAreTakenWhole : Prop :=
  ∀ (s : State) (k : CageId), s.inReset = false →
    (∃ t, exec (.snapshotCage k) s = .next t ∧ OnlyCage k s t ∧
      t.cage k =
        Cage.driveLines
          { s.cage k with
            control := { (s.cage k).control with arg0 := 0#8, command := 10#8, result := 1#8 }
            events :=
              { (s.cage k).events with
                counters := Vector.replicate 21 0
                snapshot :=
                  { taken := true
                    counters := (s.cage k).events.counters
                    lastAbsence := (s.cage k).events.lastAbsence
                    lastRecovery := (s.cage k).events.lastRecovery } } }) ∧
    (∃ t, exec (.snapshotDevice k) s = .next t ∧
      OnlyCage k
        { s with
          counters := Vector.replicate 4 0
          snapshot := { taken := true, counters := s.counters } } t ∧
      t.cage k =
        Cage.driveLines
          { s.cage k with
            control := { (s.cage k).control with arg0 := 1#8, command := 10#8, result := 1#8 } }) ∧
    ∀ v : Byte, v = 0#8 ∨ v = 1#8 →
      ∃ t, exec (.setMode k v) s = .next t ∧ t.groups = s.groups ∧
        SameDevice { s with mode := if v = 0#8 then .recover else .learn } t ∧
        (t.cage k).control = { (s.cage k).control with arg0 := v, command := 11#8, result := 1#8 } ∧
        ∀ j, let c := s.cage j
          let d := t.cage j
          (j ≠ k → d.control = c.control) ∧
          SameButSlot { c with seq := d.seq, events := d.events, control := d.control } d ∧
          (c.seq.concealed = true → v = 1#8 → s.mode = .recover →
            d.seq =
                { c.seq with
                  concealed := false
                  concealTimer := none
                  revealTimer := some { duration := s.settings.revealMinimum * 10, elapsed := 0 } } ∧
              d.events = { c.events with flags := c.events.flags ||| 8#9 }) ∧
          (c.seq.concealed = false ∨ v = 0#8 ∨ s.mode = .learn → d.seq = c.seq ∧ d.events = c.events)

/-- R43, R91, R92, R116, R121, R181, R188, R189: a command refused for its state, for the owner of its line, for its code or for an
argument only writes its argument bytes, the command byte and its result. -/
def Obligations.RefusedCommandsOnlyAnswer : Prop :=
  ∀ (s : State) (k : CageId) (i : Instr) (code r : Byte) (a b : Option Byte), s.inReset = false →
    let c := s.cage k
    let q := c.seq.state
    let served := q = .serving ∨ q = .held
    let idle := q = .vacant ∨ q = .held
    ((a = none ∧ b = none ∧
        ((i = .resume k ∧ code = 1#8 ∧ r = 2#8 ∧ q ≠ .held) ∨
          (i = .adopt k ∧ code = 2#8 ∧ r = 2#8 ∧ ¬served) ∨
          (i = .forceReplay k ∧ code = 3#8 ∧ r = 2#8 ∧ q ≠ .held) ∨
          (i = .release k ∧ code = 4#8 ∧ r = 2#8 ∧ q ≠ .held) ∨
          (i = .moduleReset k ∧ code = 5#8 ∧ r = 2#8 ∧ ¬served) ∨
          (i = .moduleReset k ∧ code = 5#8 ∧ r = 3#8 ∧ served ∧ c.lines.mrstOwner = .host) ∨
          (i = .cageClear k ∧ code = 6#8 ∧ r = 2#8 ∧ q ≠ .vacant ∧ ¬served) ∨
          (i = .unknownCommand k code ∧ r = 4#8 ∧ (code = 0#8 ∨ 12 ≤ code.toNat)))) ∨
      (∃ x, a = some x ∧ b = none ∧
        ((i = .bindProfile k x ∧ code = 7#8 ∧ r = 4#8 ∧ 4 ≤ x.toNat) ∨
          (i = .bindProfile k x ∧ code = 7#8 ∧ r = 2#8 ∧ x.toNat < 4 ∧ ¬idle) ∨
          (i = .setMode k x ∧ code = 11#8 ∧ r = 4#8 ∧ 2 ≤ x.toNat))) ∨
      ∃ x y, a = some x ∧ b = some y ∧
        ((i = .own k x y ∧ code = 8#8 ∧ r = 4#8 ∧ (2 ≤ x.toNat ∨ 2 ≤ y.toNat)) ∨
          (i = .own k x y ∧ code = 8#8 ∧ r = 2#8 ∧ x.toNat < 2 ∧ y.toNat < 2 ∧ ¬idle) ∨
          (i = .own k x y ∧ code = 8#8 ∧ r = 2#8 ∧ idle ∧
            ∃ l, lineOf x = some l ∧ y = 0#8 ∧ c.lineOwner l = .host ∧ c.lineLatch l ≠ c.lineEngine l) ∨
          (i = .line k x y ∧ code = 9#8 ∧ r = 4#8 ∧ (2 ≤ x.toNat ∨ 2 ≤ y.toNat)) ∨
          (i = .line k x y ∧ code = 9#8 ∧ r = 3#8 ∧ y.toNat < 2 ∧
            ∃ l, lineOf x = some l ∧ c.lineOwner l = .engine))) →
    ∃ t, exec i s = .next t ∧ OnlyCage k s t ∧
      t.cage k =
        Cage.driveLines
          { c with
            control :=
              { c.control with
                arg0 := a.getD c.control.arg0
                arg1 := b.getD c.control.arg1
                command := code
                result := r } }

/-! ## Writes of the control pages (chapter 12) -/

/-- R60, R156, R163, R175, R176, R184, R186: the bytes that are rows of their own. A one clears its flag and an enable byte takes
its bits; the quota and the window kind are clamped; a threshold takes its held byte and the byte written, kept apart from the
other; the budget likewise, and its scan grants a lone waiter that fits. -/
def Obligations.WrittenBytesTakeEffect : Prop :=
  ∀ (s : State) (k : CageId) (v : Byte), s.inReset = false →
    let c := s.cage k
    (∀ w, ∃ t, exec (.flagClear k w v) s = .next t ∧ t.groups = s.groups ∧
      (∀ j, j ≠ k → t.cage j = s.cage j) ∧ SameDevice { s with flags := t.flags } t ∧
      SameButSlot { c with events := { c.events with flags := (t.cage k).events.flags } } (t.cage k) ∧
      (∀ n : Fin 3, t.flags.getLsbD n = (s.flags.getLsbD n && !(decide (w = .device) && v.getLsbD n))) ∧
      ∀ n : Fin 9, (t.cage k).events.flags.getLsbD n =
        (c.events.flags.getLsbD n &&
          !((decide (w = .cageLow) && v.getLsbD n) || (decide (w = .cageHigh ∧ n = 8) && v.getLsbD 0)))) ∧
    (∀ w, ∃ t, exec (.enableWrite k w v) s = .next t ∧ t.groups = s.groups ∧
      (∀ j, j ≠ k → t.cage j = s.cage j) ∧ SameDevice { s with enables := t.enables } t ∧
      SameButSlot { c with events := { c.events with enables := (t.cage k).events.enables } } (t.cage k) ∧
      (∀ n : Fin 3, t.enables.getLsbD n = if w = .device then v.getLsbD n else s.enables.getLsbD n) ∧
      ∀ n : Fin 9, (t.cage k).events.enables.getLsbD n =
        if w = .cageLow ∧ n ≠ 8 then v.getLsbD n
        else if w = .cageHigh ∧ n = 8 then v.getLsbD 0
        else c.events.enables.getLsbD n) ∧
    (∃ t, exec (.quotaWrite k v) s = .next t ∧ OnlyCage k s t ∧
      t.cage k =
        Cage.driveLines
          { c with journal := { c.journal with quota := if v.toNat < 8 then 8 else v.toNat } }) ∧
    (∀ b, ∃ t, exec (.windowSelectorWrite k b v) s = .next t ∧ OnlyCage k s t ∧
      t.cage k =
        Cage.driveLines
          { c with
            control :=
              { c.control with
                windowIndex := if b then v else c.control.windowIndex
                windowKind :=
                  if b then c.control.windowKind else if v.toNat < 6 then v.toNat else 6 } }) ∧
    (∀ p b, ∃ t, exec (.thresholdWrite p b v) s = .next t ∧ t.cages = s.cages ∧ t.groups = s.groups ∧
      SameDevice { s with profiles := t.profiles } t ∧ (∀ q, q ≠ p → t.profile q = s.profile q) ∧
      let l := (s.profile p).lane
      let x := 256 * l.litHeld.toNat + v.toNat
      let y := 256 * l.darkHeld.toNat + v.toNat
      t.profile p =
        { s.profile p with
          lane :=
            if b then
              { l with
                lit := if x ≤ l.dark then l.dark + 1 else x
                litHeld := BitVec.ofNat 8 ((if x ≤ l.dark then l.dark + 1 else x) / 256) }
            else
              { l with
                dark := if l.lit ≤ y then l.lit - 1 else y
                darkHeld := BitVec.ofNat 8 ((if l.lit ≤ y then l.lit - 1 else y) / 256) } }) ∧
    ∃ t, exec (.budgetWrite v) s = .next t ∧ t.profiles = s.profiles ∧ t.cache = s.cache ∧
      let x := 256 * s.settings.budgetHeld.toNat + v.toNat
      let z := if x ≤ 4095 then x else 4095
      t.settings = { s.settings with budget := z, budgetHeld := BitVec.ofNat 8 (z / 256) } ∧
      (s.queue = [] → t.cages = s.cages ∧ t.groups = s.groups ∧ t.committed = s.committed ∧
        t.queue = [] ∧
        t.flags =
          if z < s.committed ↔ s.settings.budget < s.committed then s.flags else s.flags ||| 2#3) ∧
      ∀ e m, s.queue = [e] → (s.cage e.cage).ledger.computed = some m →
        s.committed - (s.cage e.cage).ledger.charge + m ≤ z →
        t.queue = [] ∧ (t.cage e.cage).ledger = { (s.cage e.cage).ledger with charge := m, grant := true } ∧
          t.committed = s.committed - (s.cage e.cage).ledger.charge + m ∧ t.EntersRamping e.cage ∧
          t.counters[0] = min 65535 (s.counters[0] + 1)

/-- R36, R38, R44, R183, R185, R186, R187: every byte of a cage's CTRL page and of its WINDOW page is the one its layout gives, read-only
bytes and unassigned ones too; and SETTING_WRITE and PROFILE_FIELD_WRITE. A setting reads back clamped into its range, no other byte of
any CTRL page changes, and of the cages only the written one's settings or argument bytes; a byte that no setting has changes
nothing. The WINDOW page takes a byte at the effective index: of
the header, the select offsets and the threshold pairs by their own rules and every other field clamped; of a region entry, an
identity span or a prefetch span, a field clamped. An offset is stored in its area, also when the area is written after it. No
other object of the profile changes, and no byte of a read-only object. -/
def Obligations.SettingsReadBackInTheirRange : Prop :=
  (∀ (s : State) (k : CageId),
    (∀ o, s.pageByte k .ctrl o = s.ctrlByte k o.toNat ∧ s.pageByte k .window o = s.windowByte k o.toNat) ∧
    ∀ n, 128 ≤ n → n < 256 →
      s.ctrlByte k n = BitVec.ofNat 8 (((s.ctrlLayout k).lookup n).getD 0) ∧
        s.windowByte k n = BitVec.ofNat 8 (((s.windowLayout k).lookup n).getD 0)) ∧
  ∀ (s : State) (k : CageId) (v : Byte), s.inReset = false → s.LinesDriven →
    let clamped (lo hi : Nat) : Byte :=
      if v.toNat < lo then BitVec.ofNat 8 lo else if hi < v.toNat then BitVec.ofNat 8 hi else v
    let placed (area x : Byte) : Byte :=
      if area = 0#8 then (if x.toNat < 128 then x else 127#8) else if x.toNat < 128 then 128#8 else x
    (∀ n lo hi,
      (n, lo, hi) ∈
        [(138, 0, 63), (139, 0, 50), (140, 0, 7), (146, 1, 255), (147, 1, 31), (148, 1, 100), (149, 1, 255),
          (150, 1, 255), (151, 1, 255), (152, 0, 15), (153, 1, 255), (154, 1, 255), (155, 1, 255),
          (156, 1, 255), (157, 1, 255), (158, 0, 7), (159, 0, 255), (160, 1, 255), (161, 1, 255),
          (162, 1, 255), (192, 0, 255), (193, 0, 3), (195, 0, 255), (232, 0, 255), (233, 0, 255)] →
      ∃ t, exec (.settingWrite k .ctrl (BitVec.ofNat 8 n) v) s = .next t ∧ t.groups = s.groups ∧
        SameDevice { s with settings := t.settings } t ∧
        t.ctrlByte k n = clamped lo hi ∧ t.settings.budgetHeld = s.settings.budgetHeld ∧
        (∀ j, j ≠ k → t.cage j = s.cage j) ∧
        SameButSlot
          { s.cage k with
            settings := (t.cage k).settings
            control :=
              { (s.cage k).control with
                arg0 := if n = 232 then v else (s.cage k).control.arg0
                arg1 := if n = 233 then v else (s.cage k).control.arg1 } }
          (t.cage k) ∧
        ∀ j m, (m ≠ n ∨ (176 ≤ n ∧ j ≠ k)) → t.ctrlByte j m = s.ctrlByte j m) ∧
    (∃ t, exec (.settingWrite k .ctrl 136#8 v) s = .next t ∧ t.cages = s.cages ∧ t.groups = s.groups ∧
      SameDevice { s with settings := { s.settings with budgetHeld := v } } t) ∧
    (∀ o : Byte, wellFormed (.settingWrite k .ctrl o v) = true →
      o.toNat ∉ [136, 138, 139, 140, 192, 193, 195, 232, 233] → (o.toNat < 146 ∨ 162 < o.toNat) →
      ∃ t, exec (.settingWrite k .ctrl o v) s = .next t ∧ t.cages = s.cages ∧ t.groups = s.groups ∧
        SameDevice s t) ∧
    ∀ o : Byte,
      exec (.settingWrite k .window o v) s = exec (.profileFieldWrite k o v) s ∧
      let i := (s.cage k).effectiveIndex
      ((s.cage k).control.windowKind = 0 ∨ 5 ≤ (s.cage k).control.windowKind →
        ∃ t, exec (.profileFieldWrite k o v) s = .next t ∧ t.cages = s.cages ∧ t.groups = s.groups ∧
          SameDevice s t) ∧
      ((s.cage k).control.windowKind = 1 →
        (o = 128#8 → exec (.profileFieldWrite k o v) s = exec (.selectOffsetWrite (profileIndex i 1) false v) s) ∧
        (o = 129#8 → exec (.profileFieldWrite k o v) s = exec (.selectOffsetWrite (profileIndex i 1) true v) s) ∧
        (o = 159#8 → exec (.profileFieldWrite k o v) s = exec (.thresholdWrite (profileIndex i 1) true v) s) ∧
        (o = 161#8 → exec (.profileFieldWrite k o v) s = exec (.thresholdWrite (profileIndex i 1) false v) s)) ∧
      ((s.cage k).control.windowKind = 1 → o.toNat ∉ [128, 129, 159, 161] →
        ∃ t, exec (.profileFieldWrite k o v) s = .next t ∧ t.cages = s.cages ∧ t.groups = s.groups ∧
          SameDevice { s with profiles := t.profiles } t ∧
          (∀ q, q ≠ profileIndex i 1 → t.profile q = s.profile q) ∧
          (t.profile (profileIndex i 1)).entries = (s.profile (profileIndex i 1)).entries ∧
          (t.profile (profileIndex i 1)).idSpans = (s.profile (profileIndex i 1)).idSpans ∧
          (t.profile (profileIndex i 1)).prefetch = (s.profile (profileIndex i 1)).prefetch ∧
          (∀ lo hi,
            (o.toNat, lo, hi) ∈
              [(130, 0, 3), (131, 0, 1), (132, 0, 1), (133, 1, 255), (134, 0, 1), (135, 0, 1), (136, 0, 255),
                (137, 0, 255), (139, 0, 255), (140, 0, 255), (141, 0, 1), (142, 0, 1), (143, 0, 255),
                (144, 0, 255), (146, 0, 1), (147, 0, 1), (148, 0, 255), (149, 0, 255), (151, 0, 8),
                (152, 0, 1), (153, 0, 1), (154, 0, 255), (155, 0, 255), (157, 0, 255), (162, 1, 15),
                (163, 1, 15)] →
            t.windowByte k o.toNat = clamped lo hi) ∧
          (o.toNat ∈ [135, 142, 147, 153] →
            t.windowByte k (o.toNat + 3) = placed (t.windowByte k o.toNat) (s.windowByte k (o.toNat + 3))) ∧
          (o.toNat ∈ [138, 145, 150, 156] →
            t.windowByte k o.toNat = placed (s.windowByte k (o.toNat - 3)) v) ∧
          (o = 158#8 ∨ o = 160#8 →
            (t.profile (profileIndex i 1)).lane =
              { (s.profile (profileIndex i 1)).lane with
                litHeld := if o = 158#8 then v else (s.profile (profileIndex i 1)).lane.litHeld
                darkHeld := if o = 160#8 then v else (s.profile (profileIndex i 1)).lane.darkHeld }) ∧
          ∀ m, (m ≠ o.toNat ∨ o = 158#8 ∨ o = 160#8) → (o.toNat ∈ [135, 142, 147, 153] → m ≠ o.toNat + 3) →
            t.windowByte k m = s.windowByte k m) ∧
      ((s.cage k).control.windowKind = 3 ∨ (s.cage k).control.windowKind = 4 →
        let q := profileIndex i 4
        let prefetch := (s.cage k).control.windowKind = 4
        ∃ t, exec (.profileFieldWrite k o v) s = .next t ∧ t.cages = s.cages ∧ t.groups = s.groups ∧
          SameDevice { s with profiles := t.profiles } t ∧ (∀ r, r ≠ q → t.profile r = s.profile r) ∧
          t.profile q =
            { s.profile q with
              idSpans := (t.profile q).idSpans
              prefetch := (t.profile q).prefetch } ∧
          (∀ j, prefetch ∨ j % 4 ≠ i % 4 → (t.profile q).spanAt j = (s.profile q).spanAt j) ∧
          (∀ j, ¬prefetch ∨ j % 4 ≠ i % 4 → (t.profile q).prefetchAt j = (s.profile q).prefetchAt j) ∧
          (∀ lo hi,
            (o.toNat, lo, hi) ∈
              [(128, 0, 1), (129, 0, 1), (130, 0, 255), (131, 0, 255),
                (133, 1, if prefetch then 64 else 32), (134, 0, if prefetch then 0 else 1)] →
            t.windowByte k o.toNat = clamped lo hi) ∧
          (o = 129#8 → t.windowByte k 132 = placed (t.windowByte k 129) (s.windowByte k 132)) ∧
          (o = 132#8 → t.windowByte k 132 = placed (s.windowByte k 129) v) ∧
          ∀ m, m ≠ o.toNat → (o = 129#8 → m ≠ 132) → t.windowByte k m = s.windowByte k m) ∧
      ((s.cage k).control.windowKind = 2 →
        ∃ t, exec (.profileFieldWrite k o v) s = .next t ∧ t.cages = s.cages ∧ t.groups = s.groups ∧
          SameDevice { s with profiles := t.profiles } t ∧
          (∀ q, q ≠ profileIndex i 16 → t.profile q = s.profile q) ∧
          t.profile (profileIndex i 16) =
            { s.profile (profileIndex i 16) with entries := (t.profile (profileIndex i 16)).entries } ∧
          (∀ j, j % 16 ≠ i % 16 →
            (t.profile (profileIndex i 16)).entryAt j = (s.profile (profileIndex i 16)).entryAt j) ∧
          (o.toNat = 128 ∨ o.toNat = 129 ∨ o.toNat = 136 ∨ o.toNat = 137 →
            t.windowByte k o.toNat = if v = 0#8 then 0#8 else 1#8) ∧
          (o.toNat = 130 → t.windowByte k 130 = v &&& 3#8) ∧
          (o.toNat = 131 ∨ o.toNat = 132 → t.windowByte k o.toNat = v) ∧
          (o.toNat = 133 ∨ o.toNat = 134 →
            t.windowByte k o.toNat = placed (s.windowByte k 129) v) ∧
          (o.toNat = 135 → t.windowByte k 135 = if v.toNat < 3 then v else 3#8) ∧
          (o.toNat = 138 → t.windowByte k 138 = v) ∧
          (o = 129#8 → ∀ m, m = 133 ∨ m = 134 →
            t.windowByte k m = placed (t.windowByte k 129) (s.windowByte k m)) ∧
          ∀ m, m ≠ o.toNat → (o = 129#8 → m ≠ 133 ∧ m ≠ 134) → t.windowByte k m = s.windowByte k m)

/-! ## The journal (chapter 4) -/

/-- R52 to R58: one piece taken. It folds into the RETAIN record of its key, or into a tail of its class, key and mask, whatever the
pool; else it makes a record at the tail while the quota and the pool allow; else it is lost, and INCOMPLETE says so. -/
def Obligations.JournalTakesOnePiece : Prop :=
  ∀ (s : State) (k : CageId) (reached : Bool) (p : Piece),
    let j := (s.cage k).journal
    let t := s.takePiece k reached p
    let mark := if reached then Mark.applied else .pending
    let folds (i : Nat) (r : Record) :=
      j.list[i]? = some r ∧ r.key = p.key ∧ r.cls = p.cls ∧
        (p.cls = .retain → ∀ n < i, ∀ q, j.list[n]? = some q → ¬(q.cls = .retain ∧ q.key = p.key)) ∧
        (p.cls = .sequence → i + 1 = j.list.length ∧ ∀ n : Fin 8, r.cells[n].isSome = p.cells[n].isSome)
    let room := j.list.length < j.quota ∧ ∑ i : CageId, (s.cage i).journal.list.length < 1024
    (∀ i, i ≠ k → t.cage i = s.cage i) ∧ t.groups = s.groups ∧ SameDevice { s with flags := t.flags } t ∧
      SameButSlot { s.cage k with journal := (t.cage k).journal, events := (t.cage k).events } (t.cage k) ∧
      (∀ i r, folds i r →
        (t.cage k).events = (s.cage k).events ∧ t.flags = s.flags ∧
          (t.cage k).journal =
            { j with
              list :=
                j.list.set i
                  { r with
                    cells := Vector.ofFn fun n : Fin 8 => if p.cells[n].isSome then p.cells[n] else r.cells[n]
                    mark := mark }
              target := j.target.map fun x => (x.1, x.2 || (decide (x.1 = i) && !reached)) }) ∧
      ((∀ i r, ¬folds i r) → room →
        (t.cage k).events = (s.cage k).events ∧ t.flags = s.flags ∧
          (t.cage k).journal =
            { j with list := j.list ++ [{ key := p.key, cls := p.cls, cells := p.cells, mark := mark }] }) ∧
      ((∀ i r, ¬folds i r) → ¬room →
        (t.cage k).journal = { j with incomplete := true } ∧
          (t.cage k).events =
            { (s.cage k).events with
              counters :=
                (s.cage k).events.counters.set 10 (min 65535 ((s.cage k).events.counters[10] + 1))
              flags :=
                if j.incomplete then (s.cage k).events.flags else (s.cage k).events.flags ||| 32#9 } ∧
          t.flags =
            if 1024 ≤ ∑ i : CageId, (s.cage i).journal.list.length then s.flags ||| 4#3 else s.flags)

/-- R49 to R51: what a handed write gives the journal. A frozen journal takes nothing, and a posted write's bytes then count as
discarded; else each piece is taken in order. A forwarded write stops before its first byte the module did not acknowledge. A byte of
no class that is kept ends a piece, and so does a gap, a block boundary or another region; the bytes between make one piece.
That bytes of one entry whose class was rewritten between them do not share a piece is the model's choice (assumption 25). -/
def Obligations.WritesAreCutIntoPieces : Prop :=
  (∀ (s : State) (w : HandedWrite), (s.cage w.cage).journal.frozen = false →
    s.takeWrite w =
      (cutPieces w.bank w.page w.acknowledged).foldl (fun t p => t.takePiece w.cage w.reached p) s) ∧
    (∀ (s : State) (w : HandedWrite), (s.cage w.cage).journal.frozen = true →
      (w.reached = true → s.takeWrite w = s) ∧
      (w.reached = false → OnlyCage w.cage s (s.takeWrite w) ∧
        (s.takeWrite w).cage w.cage =
          Cage.driveLines
            { s.cage w.cage with
              events :=
                { (s.cage w.cage).events with
                  counters :=
                    (s.cage w.cage).events.counters.set 8
                      (min 65535 ((s.cage w.cage).events.counters[8] + w.bytes.length)) } })) ∧
    (∀ w : HandedWrite, (w.reached = false ∨ (∀ b ∈ w.bytes, b.acked = true) → w.acknowledged = w.bytes) ∧
      ∀ xs b ys, w.reached = true → w.bytes = xs ++ b :: ys → (∀ y ∈ xs, y.acked = true) → b.acked = false →
        w.acknowledged = xs) ∧
    ∀ bank page : Byte,
      let cut := cutPieces bank page
      let kept (b : HandedByte) : Option RecordClass :=
        b.region.bind fun r =>
          match r.writeClass with
          | .retain => some .retain
          | .sequence => some .sequence
          | _ => none
      let joins (a b : HandedByte) : Prop :=
        b.gap = false ∧ b.offset.toNat = a.offset.toNat + 1 ∧ b.offset.toNat % 8 ≠ 0 ∧ kept b = kept a ∧
          b.region.bind (·.entry) = a.region.bind (·.entry)
      cut [] = [] ∧
      (∀ xs b ys, kept b = none → cut (xs ++ b :: ys) = cut xs ++ cut ys) ∧
      (∀ xs a b ys, kept a ≠ none → kept b ≠ none → ¬joins a b →
        cut (xs ++ a :: b :: ys) = cut (xs ++ [a]) ++ cut (b :: ys)) ∧
      ∀ a rest c, kept a = some c → (a :: rest).IsChain joins →
        ∃ p, cut (a :: rest) = [p] ∧ p.key = keyAt bank page a.offset ∧ p.cls = c ∧
          p.entry = a.region.bind (·.entry) ∧
          (∀ b ∈ a :: rest, p.cells[posOf b.offset] = some b.value) ∧
          ∀ n : Fin 8, (∀ b ∈ a :: rest, posOf b.offset ≠ n) → p.cells[n] = none

/-! ## The cache (chapter 5) -/

/-- R69, R71: a fill, key by key in the order met. The line of a key is VALID, its kind HELD when a byte handed is LIVE, and it
stands at the most-recent end; of a VALID line the bytes not handed stay, of a STALE line they go. A key without a line
takes a free line, else the place of the oldest STALE line, else of the oldest. -/
def Obligations.FillInstallsAndRefreshesLines : Prop :=
  (∀ (k : CageId) (lines : List Line), fillLines k [] lines = lines) ∧
    (∀ (k : CageId) (b : CacheByte) (rest : List CacheByte) (lines : List Line),
      fillLines k (b :: rest) lines =
        fillLines k ((b :: rest).filter fun c => decide (c.key ≠ b.key))
          (fillLines k ((b :: rest).filter fun c => decide (c.key = b.key)) lines)) ∧
    ∀ (k : CageId) (key : Key) (bytes : List CacheByte) (lines : List Line), bytes ≠ [] →
      (∀ b ∈ bytes, b.key = key) →
      let mine (l : Line) := decide (l.owner = k) && decide (l.key = key)
      let handed (n : Fin 8) := (bytes.reverse.find? fun b => decide (b.pos = n)).map (·.value)
      ∃ kept l, fillLines k bytes lines = kept ++ [l] ∧ l.owner = k ∧ l.key = key ∧ l.state = .valid ∧
        (l.kind = .live ↔ ∃ b ∈ bytes, b.readClass = .live) ∧
        (∀ old, lines.find? mine = some old →
          kept = lines.filter (fun x => !mine x) ∧
          ∀ n : Fin 8,
            l.cells[n] = (handed n).or (if old.state = .valid then old.cells[n] else none)) ∧
        ((∀ x ∈ lines, mine x = false) →
          (∀ n : Fin 8, l.cells[n] = handed n) ∧
          (lines.length < 512 → kept = lines) ∧
          (∀ xs x ys, 512 ≤ lines.length → lines = xs ++ x :: ys → x.state = .stale →
            (∀ y ∈ xs, y.state ≠ .stale) → kept = xs ++ ys) ∧
          ∀ x ys, 512 ≤ lines.length → lines = x :: ys → (∀ y ∈ lines, y.state ≠ .stale) → kept = ys)

/-! ## Scans and diverted bytes (chapters 9 and 12) -/

/-- R104, R150, R151: the scan of a queue of several waiters, on a BUDGET_WRITE. It skips an entry that does not fit while its passed count is
below the bypass limit, and stops at one that has reached it; a grant counts, passes every entry skipped before it, once each and up
to 7, and takes the cage to RAMPING, where its ramp wait begins; scans are repeated while one lowers a charge. That the limit in force at the scan decides also where
the budget is written with its present value is the model's reading of R144 and R150 beside R156 (assumption 36). -/
def Obligations.ScanPassesAndGrantsInOrder : Prop :=
  ∀ (s : State) (v : Byte), s.inReset = false →
    let w := 256 * s.settings.budgetHeld.toNat + v.toNat
    let budget := if w ≤ 4095 then w else 4095
    let charge (e : QueueEntry) := (s.cage e.cage).ledger.charge
    let wanted (e : QueueEntry) := (s.cage e.cage).ledger.computed.getD 0
    let fits (committed : Nat) (e : QueueEntry) := committed + wanted e ≤ budget + charge e
    let skipped (committed : Nat) (e : QueueEntry) := ¬fits committed e ∧ e.passed < s.settings.bypassLimit
    let ends (committed : Nat) (q : List QueueEntry) :=
      ∀ e ∈ q.head?, ¬fits committed e ∧ s.settings.bypassLimit ≤ e.passed
    let passedBy (e : QueueEntry) : QueueEntry :=
      { e with passed := if e.passed < 7 then e.passed + 1 else 7 }
    let granted (t : State) (e : QueueEntry) :=
      (t.cage e.cage).ledger = { (s.cage e.cage).ledger with charge := wanted e, grant := true } ∧
        t.EntersRamping e.cage
    (∀ xs rest, s.queue = xs ++ rest → (∀ e ∈ xs, skipped s.committed e) → ends s.committed rest →
      ∃ t, exec (.budgetWrite v) s = .next t ∧ t.queue = s.queue ∧ t.cages = s.cages ∧
        t.groups = s.groups ∧ t.committed = s.committed ∧ t.counters = s.counters) ∧
    (∀ xs e mid rest, s.queue = xs ++ e :: (mid ++ rest) → (∀ f ∈ xs ++ mid ++ rest, f.cage ≠ e.cage) →
      (∀ f ∈ xs, skipped s.committed f) → fits s.committed e → charge e ≤ wanted e →
      (∀ f ∈ mid, skipped (s.committed - charge e + wanted e) f) →
      ends (s.committed - charge e + wanted e) rest →
      ∃ t, exec (.budgetWrite v) s = .next t ∧ t.queue = xs.map passedBy ++ (mid ++ rest) ∧ granted t e ∧
        t.committed = s.committed - charge e + wanted e ∧
        t.counters[0] = min 65535 (s.counters[0] + 1) ∧
        t.counters[1] = min 65535 (s.counters[1] + xs.length) ∧
        ∀ j, j ≠ e.cage → (t.cage j).ledger = (s.cage j).ledger ∧ (t.cage j).seq = (s.cage j).seq) ∧
    ∀ a e, s.queue = [a, e] → a.cage ≠ e.cage → skipped s.committed a → fits s.committed e →
      wanted e < charge e → fits (s.committed - charge e + wanted e) a →
      ∃ t, exec (.budgetWrite v) s = .next t ∧ t.queue = [] ∧ granted t a ∧ granted t e ∧
        t.committed = s.committed - charge e + wanted e - charge a + wanted a ∧
        t.counters[0] = min 65535 (s.counters[0] + 2) ∧ t.counters[1] = min 65535 (s.counters[1] + 1)

/-- R8, R183, R188: WRITE_DATA_BYTE on a control page. The byte is the part's own on every path that answers: the transfer downstream
ends there, the pointer advances, the byte is acknowledged, and the byte of the page is written as its own row writes it; the command
byte gives the command of its code with the argument bytes as they stand. -/
def Obligations.DivertedByteIsWrittenToThePage : Prop :=
  (∀ (s : State) (g : GroupId) (k : CageId) (x : Transfer) (page : ControlPage) (v : Byte),
    s.inReset = false → (s.group g).up.transaction = some { cage := some k, transfer := some x } →
    x.hold = .none → x.read = false → x.offsetSeen = true →
    (x.path = .forwarded ∨ x.path = .concealed ∨ x.path = .uncovered ∨ x.path = .control) →
    (x.relay = .live ∨ x.relay = .afterSelect) →
    let c := s.cage k
    let o := c.ctx.hostPtr
    let sent := x.path = .forwarded ∧ x.relay = .live
    128 ≤ o.toNat →
    ((page = .ctrl ∧ x.page = s.straps.ctrlPage) ∨ (page = .window ∧ x.page = s.straps.ctrlPage + 1#8)) →
    ∃ z, exec (.writeDataByte g v) s = exec (.settingWrite k page o v) z ∧ z.inReset = false ∧
      (∀ j, j ≠ k → z.cage j = s.cage j) ∧ (∀ h, h ≠ g → z.group h = s.group h) ∧ SameDevice s z ∧
      z.cage k =
        Cage.driveLines
          { c with
            ctx :=
              { c.ctx with
                hostPtr := ptrNext o
                belief :=
                  if sent then
                    c.ctx.belief.map fun f =>
                      { f with bank := x.bankSet.getD f.bank, page := x.pageSet.getD f.page }
                  else c.ctx.belief } } ∧
      (z.group g).up =
        { transaction :=
            some
              { cage := some k
                transfer :=
                  some
                    { x with
                      relay := .afterSelect
                      bankSet := if sent then none else x.bankSet
                      pageSet := if sent then none else x.pageSet } }
          answer := .ack } ∧
      (z.group g).down.selected = (if sent then none else (s.group g).down.selected) ∧
      (z.group g).owner = (s.group g).owner ∧ (z.group g).burst = (s.group g).burst ∧
      (z.group g).waiting = (s.group g).waiting) ∧
    ∀ (z : State) (k : CageId) (v : Byte),
      let written (o : Byte) := exec (.settingWrite k .ctrl o v) z
      let command (code : Byte) := exec (.settingWrite k .ctrl 234#8 code) z
      let a := (z.cage k).control.arg0
      let b := (z.cage k).control.arg1
      written 131#8 = exec (.flagClear k .device v) z ∧ written 132#8 = exec (.enableWrite k .device v) z ∧
      written 137#8 = exec (.budgetWrite v) z ∧ written 183#8 = exec (.flagClear k .cageLow v) z ∧
      written 184#8 = exec (.flagClear k .cageHigh v) z ∧ written 185#8 = exec (.enableWrite k .cageLow v) z ∧
      written 186#8 = exec (.enableWrite k .cageHigh v) z ∧ written 196#8 = exec (.quotaWrite k v) z ∧
      written 236#8 = exec (.windowSelectorWrite k false v) z ∧
      written 237#8 = exec (.windowSelectorWrite k true v) z ∧
      (∀ o, exec (.settingWrite k .window o v) z = exec (.profileFieldWrite k o v) z) ∧
      command 1#8 = exec (.resume k) z ∧ command 2#8 = exec (.adopt k) z ∧
      command 3#8 = exec (.forceReplay k) z ∧ command 4#8 = exec (.release k) z ∧
      command 5#8 = exec (.moduleReset k) z ∧ command 6#8 = exec (.cageClear k) z ∧
      (z.LinesDriven →
        command 7#8 = exec (.bindProfile k a) z ∧ command 8#8 = exec (.own k a b) z ∧
        command 9#8 = exec (.line k a b) z ∧ command 11#8 = exec (.setMode k a) z ∧
        (a = 0#8 → command 10#8 = exec (.snapshotCage k) z) ∧
        (a = 1#8 → command 10#8 = exec (.snapshotDevice k) z)) ∧
      (z.inReset = false → 2 ≤ a.toNat →
        ∃ t, command 10#8 = .next t ∧ OnlyCage k z t ∧
          t.cage k =
            Cage.driveLines
              { z.cage k with control := { (z.cage k).control with command := 10#8, result := 4#8 } }) ∧
      (v = 0#8 ∨ 12 ≤ v.toNat → command v = exec (.unknownCommand k v) z)

end
end

