-- ==== Sys2Proof/Laws/State.lean ====
section
/-! SUPPORT. What one update of the state leaves and sets, field by field: cages, groups and profiles by index, the
levels of the lines, and the device-wide fields. -/

namespace Sys2Proof.Machine

/-! ## Reading after replacing -/

@[simp] theorem State.cage_setCage_self (s : State) (k : CageId) (c : Cage) :
    (s.setCage k c).cage k = c.driveLines := by
  simp [State.cage, State.setCage]

theorem State.cage_setCage_ne (s : State) {j k : CageId} (h : j ≠ k) (c : Cage) :
    (s.setCage k c).cage j = s.cage j := by
  have : (k : Nat) ≠ j := fun e => h (Fin.ext e.symm)
  simp [State.cage, State.setCage, this]

theorem State.cage_setCage (s : State) (j k : CageId) (c : Cage) :
    (s.setCage k c).cage j = if j = k then c.driveLines else s.cage j := by
  by_cases h : j = k
  · subst h; simp
  · simp [h, State.cage_setCage_ne s h c]

@[simp] theorem State.cage_onCage_self (s : State) (k : CageId) (f : Cage → Cage) :
    (s.onCage k f).cage k = (f (s.cage k)).driveLines := State.cage_setCage_self ..

theorem State.cage_onCage_ne (s : State) {j k : CageId} (h : j ≠ k) (f : Cage → Cage) :
    (s.onCage k f).cage j = s.cage j := State.cage_setCage_ne s h _

theorem State.cage_onCage (s : State) (j k : CageId) (f : Cage → Cage) :
    (s.onCage k f).cage j = if j = k then (f (s.cage k)).driveLines else s.cage j :=
  State.cage_setCage ..

@[simp] theorem State.group_setGroup_self (s : State) (g : GroupId) (x : Group) :
    (s.setGroup g x).group g = x := by
  simp [State.group, State.setGroup]

theorem State.group_setGroup_ne (s : State) {i g : GroupId} (h : i ≠ g) (x : Group) :
    (s.setGroup g x).group i = s.group i := by
  have : (g : Nat) ≠ i := fun e => h (Fin.ext e.symm)
  simp [State.group, State.setGroup, this]

@[simp] theorem State.group_onGroup_self (s : State) (g : GroupId) (f : Group → Group) :
    (s.onGroup g f).group g = f (s.group g) := State.group_setGroup_self ..

theorem State.group_onGroup_ne (s : State) {i g : GroupId} (h : i ≠ g) (f : Group → Group) :
    (s.onGroup g f).group i = s.group i := State.group_setGroup_ne s h _

@[simp] theorem State.profile_onProfile_self (s : State) (p : ProfileId) (f : Profile → Profile) :
    (s.onProfile p f).profile p = f (s.profile p) := by
  simp [State.profile, State.onProfile]

theorem State.profile_onProfile_ne (s : State) {q p : ProfileId} (h : q ≠ p) (f : Profile → Profile) :
    (s.onProfile p f).profile q = s.profile q := by
  have : (p : Nat) ≠ q := fun e => h (Fin.ext e.symm)
  simp [State.profile, State.onProfile, this]

/-- A state whose cages are those of another shows the same cage. -/
theorem State.cage_congr {s t : State} (h : t.cages = s.cages) (k : CageId) : t.cage k = s.cage k := by
  simp [State.cage, h]


/-! ## One cage -/

@[simp] theorem State.groups_setCage (s : State) (k : CageId) (c : Cage) : (s.setCage k c).groups = s.groups := rfl
@[simp] theorem State.profiles_setCage (s : State) (k : CageId) (c : Cage) : (s.setCage k c).profiles = s.profiles := rfl
@[simp] theorem State.cache_setCage (s : State) (k : CageId) (c : Cage) : (s.setCage k c).cache = s.cache := rfl
@[simp] theorem State.queue_setCage (s : State) (k : CageId) (c : Cage) : (s.setCage k c).queue = s.queue := rfl
@[simp] theorem State.committed_setCage (s : State) (k : CageId) (c : Cage) : (s.setCage k c).committed = s.committed := rfl
@[simp] theorem State.settings_setCage (s : State) (k : CageId) (c : Cage) : (s.setCage k c).settings = s.settings := rfl
@[simp] theorem State.mode_setCage (s : State) (k : CageId) (c : Cage) : (s.setCage k c).mode = s.mode := rfl
@[simp] theorem State.straps_setCage (s : State) (k : CageId) (c : Cage) : (s.setCage k c).straps = s.straps := rfl
@[simp] theorem State.flags_setCage (s : State) (k : CageId) (c : Cage) : (s.setCage k c).flags = s.flags := rfl
@[simp] theorem State.enables_setCage (s : State) (k : CageId) (c : Cage) : (s.setCage k c).enables = s.enables := rfl
@[simp] theorem State.counters_setCage (s : State) (k : CageId) (c : Cage) : (s.setCage k c).counters = s.counters := rfl
@[simp] theorem State.snapshot_setCage (s : State) (k : CageId) (c : Cage) : (s.setCage k c).snapshot = s.snapshot := rfl
@[simp] theorem State.alert_setCage (s : State) (k : CageId) (c : Cage) : (s.setCage k c).alert = s.alert := rfl
@[simp] theorem State.inReset_setCage (s : State) (k : CageId) (c : Cage) : (s.setCage k c).inReset = s.inReset := rfl
@[simp] theorem State.ties_setCage (s : State) (k : CageId) (c : Cage) : (s.setCage k c).ties = s.ties := rfl
@[simp] theorem State.pending_setCage (s : State) (k : CageId) (c : Cage) : (s.setCage k c).pending = s.pending := rfl
@[simp] theorem State.group_setCage (s : State) (k : CageId) (c : Cage) (g' : GroupId) : (s.setCage k c).group g' = s.group g' := rfl
@[simp] theorem State.profile_setCage (s : State) (k : CageId) (c : Cage) (q : ProfileId) : (s.setCage k c).profile q = s.profile q := rfl

/-! ## One cage, by a function -/

@[simp] theorem State.groups_onCage (s : State) (k : CageId) (f : Cage → Cage) : (s.onCage k f).groups = s.groups := rfl
@[simp] theorem State.profiles_onCage (s : State) (k : CageId) (f : Cage → Cage) : (s.onCage k f).profiles = s.profiles := rfl
@[simp] theorem State.cache_onCage (s : State) (k : CageId) (f : Cage → Cage) : (s.onCage k f).cache = s.cache := rfl
@[simp] theorem State.queue_onCage (s : State) (k : CageId) (f : Cage → Cage) : (s.onCage k f).queue = s.queue := rfl
@[simp] theorem State.committed_onCage (s : State) (k : CageId) (f : Cage → Cage) : (s.onCage k f).committed = s.committed := rfl
@[simp] theorem State.settings_onCage (s : State) (k : CageId) (f : Cage → Cage) : (s.onCage k f).settings = s.settings := rfl
@[simp] theorem State.mode_onCage (s : State) (k : CageId) (f : Cage → Cage) : (s.onCage k f).mode = s.mode := rfl
@[simp] theorem State.straps_onCage (s : State) (k : CageId) (f : Cage → Cage) : (s.onCage k f).straps = s.straps := rfl
@[simp] theorem State.flags_onCage (s : State) (k : CageId) (f : Cage → Cage) : (s.onCage k f).flags = s.flags := rfl
@[simp] theorem State.enables_onCage (s : State) (k : CageId) (f : Cage → Cage) : (s.onCage k f).enables = s.enables := rfl
@[simp] theorem State.counters_onCage (s : State) (k : CageId) (f : Cage → Cage) : (s.onCage k f).counters = s.counters := rfl
@[simp] theorem State.snapshot_onCage (s : State) (k : CageId) (f : Cage → Cage) : (s.onCage k f).snapshot = s.snapshot := rfl
@[simp] theorem State.alert_onCage (s : State) (k : CageId) (f : Cage → Cage) : (s.onCage k f).alert = s.alert := rfl
@[simp] theorem State.inReset_onCage (s : State) (k : CageId) (f : Cage → Cage) : (s.onCage k f).inReset = s.inReset := rfl
@[simp] theorem State.ties_onCage (s : State) (k : CageId) (f : Cage → Cage) : (s.onCage k f).ties = s.ties := rfl
@[simp] theorem State.pending_onCage (s : State) (k : CageId) (f : Cage → Cage) : (s.onCage k f).pending = s.pending := rfl
@[simp] theorem State.group_onCage (s : State) (k : CageId) (f : Cage → Cage) (g' : GroupId) : (s.onCage k f).group g' = s.group g' := rfl
@[simp] theorem State.profile_onCage (s : State) (k : CageId) (f : Cage → Cage) (q : ProfileId) : (s.onCage k f).profile q = s.profile q := rfl

/-! ## One group -/

@[simp] theorem State.cages_setGroup (s : State) (g : GroupId) (x : Group) : (s.setGroup g x).cages = s.cages := rfl
@[simp] theorem State.profiles_setGroup (s : State) (g : GroupId) (x : Group) : (s.setGroup g x).profiles = s.profiles := rfl
@[simp] theorem State.cache_setGroup (s : State) (g : GroupId) (x : Group) : (s.setGroup g x).cache = s.cache := rfl
@[simp] theorem State.queue_setGroup (s : State) (g : GroupId) (x : Group) : (s.setGroup g x).queue = s.queue := rfl
@[simp] theorem State.committed_setGroup (s : State) (g : GroupId) (x : Group) : (s.setGroup g x).committed = s.committed := rfl
@[simp] theorem State.settings_setGroup (s : State) (g : GroupId) (x : Group) : (s.setGroup g x).settings = s.settings := rfl
@[simp] theorem State.mode_setGroup (s : State) (g : GroupId) (x : Group) : (s.setGroup g x).mode = s.mode := rfl
@[simp] theorem State.straps_setGroup (s : State) (g : GroupId) (x : Group) : (s.setGroup g x).straps = s.straps := rfl
@[simp] theorem State.flags_setGroup (s : State) (g : GroupId) (x : Group) : (s.setGroup g x).flags = s.flags := rfl
@[simp] theorem State.enables_setGroup (s : State) (g : GroupId) (x : Group) : (s.setGroup g x).enables = s.enables := rfl
@[simp] theorem State.counters_setGroup (s : State) (g : GroupId) (x : Group) : (s.setGroup g x).counters = s.counters := rfl
@[simp] theorem State.snapshot_setGroup (s : State) (g : GroupId) (x : Group) : (s.setGroup g x).snapshot = s.snapshot := rfl
@[simp] theorem State.alert_setGroup (s : State) (g : GroupId) (x : Group) : (s.setGroup g x).alert = s.alert := rfl
@[simp] theorem State.inReset_setGroup (s : State) (g : GroupId) (x : Group) : (s.setGroup g x).inReset = s.inReset := rfl
@[simp] theorem State.ties_setGroup (s : State) (g : GroupId) (x : Group) : (s.setGroup g x).ties = s.ties := rfl
@[simp] theorem State.pending_setGroup (s : State) (g : GroupId) (x : Group) : (s.setGroup g x).pending = s.pending := rfl
@[simp] theorem State.cage_setGroup (s : State) (g : GroupId) (x : Group) (j : CageId) : (s.setGroup g x).cage j = s.cage j := rfl
@[simp] theorem State.profile_setGroup (s : State) (g : GroupId) (x : Group) (q : ProfileId) : (s.setGroup g x).profile q = s.profile q := rfl

/-! ## One group, by a function -/

@[simp] theorem State.cages_onGroup (s : State) (g : GroupId) (f : Group → Group) : (s.onGroup g f).cages = s.cages := rfl
@[simp] theorem State.profiles_onGroup (s : State) (g : GroupId) (f : Group → Group) : (s.onGroup g f).profiles = s.profiles := rfl
@[simp] theorem State.cache_onGroup (s : State) (g : GroupId) (f : Group → Group) : (s.onGroup g f).cache = s.cache := rfl
@[simp] theorem State.queue_onGroup (s : State) (g : GroupId) (f : Group → Group) : (s.onGroup g f).queue = s.queue := rfl
@[simp] theorem State.committed_onGroup (s : State) (g : GroupId) (f : Group → Group) : (s.onGroup g f).committed = s.committed := rfl
@[simp] theorem State.settings_onGroup (s : State) (g : GroupId) (f : Group → Group) : (s.onGroup g f).settings = s.settings := rfl
@[simp] theorem State.mode_onGroup (s : State) (g : GroupId) (f : Group → Group) : (s.onGroup g f).mode = s.mode := rfl
@[simp] theorem State.straps_onGroup (s : State) (g : GroupId) (f : Group → Group) : (s.onGroup g f).straps = s.straps := rfl
@[simp] theorem State.flags_onGroup (s : State) (g : GroupId) (f : Group → Group) : (s.onGroup g f).flags = s.flags := rfl
@[simp] theorem State.enables_onGroup (s : State) (g : GroupId) (f : Group → Group) : (s.onGroup g f).enables = s.enables := rfl
@[simp] theorem State.counters_onGroup (s : State) (g : GroupId) (f : Group → Group) : (s.onGroup g f).counters = s.counters := rfl
@[simp] theorem State.snapshot_onGroup (s : State) (g : GroupId) (f : Group → Group) : (s.onGroup g f).snapshot = s.snapshot := rfl
@[simp] theorem State.alert_onGroup (s : State) (g : GroupId) (f : Group → Group) : (s.onGroup g f).alert = s.alert := rfl
@[simp] theorem State.inReset_onGroup (s : State) (g : GroupId) (f : Group → Group) : (s.onGroup g f).inReset = s.inReset := rfl
@[simp] theorem State.ties_onGroup (s : State) (g : GroupId) (f : Group → Group) : (s.onGroup g f).ties = s.ties := rfl
@[simp] theorem State.pending_onGroup (s : State) (g : GroupId) (f : Group → Group) : (s.onGroup g f).pending = s.pending := rfl
@[simp] theorem State.cage_onGroup (s : State) (g : GroupId) (f : Group → Group) (j : CageId) : (s.onGroup g f).cage j = s.cage j := rfl
@[simp] theorem State.profile_onGroup (s : State) (g : GroupId) (f : Group → Group) (q : ProfileId) : (s.onGroup g f).profile q = s.profile q := rfl

/-! ## One profile -/

@[simp] theorem State.cages_onProfile (s : State) (p : ProfileId) (f : Profile → Profile) : (s.onProfile p f).cages = s.cages := rfl
@[simp] theorem State.groups_onProfile (s : State) (p : ProfileId) (f : Profile → Profile) : (s.onProfile p f).groups = s.groups := rfl
@[simp] theorem State.cache_onProfile (s : State) (p : ProfileId) (f : Profile → Profile) : (s.onProfile p f).cache = s.cache := rfl
@[simp] theorem State.queue_onProfile (s : State) (p : ProfileId) (f : Profile → Profile) : (s.onProfile p f).queue = s.queue := rfl
@[simp] theorem State.committed_onProfile (s : State) (p : ProfileId) (f : Profile → Profile) : (s.onProfile p f).committed = s.committed := rfl
@[simp] theorem State.settings_onProfile (s : State) (p : ProfileId) (f : Profile → Profile) : (s.onProfile p f).settings = s.settings := rfl
@[simp] theorem State.mode_onProfile (s : State) (p : ProfileId) (f : Profile → Profile) : (s.onProfile p f).mode = s.mode := rfl
@[simp] theorem State.straps_onProfile (s : State) (p : ProfileId) (f : Profile → Profile) : (s.onProfile p f).straps = s.straps := rfl
@[simp] theorem State.flags_onProfile (s : State) (p : ProfileId) (f : Profile → Profile) : (s.onProfile p f).flags = s.flags := rfl
@[simp] theorem State.enables_onProfile (s : State) (p : ProfileId) (f : Profile → Profile) : (s.onProfile p f).enables = s.enables := rfl
@[simp] theorem State.counters_onProfile (s : State) (p : ProfileId) (f : Profile → Profile) : (s.onProfile p f).counters = s.counters := rfl
@[simp] theorem State.snapshot_onProfile (s : State) (p : ProfileId) (f : Profile → Profile) : (s.onProfile p f).snapshot = s.snapshot := rfl
@[simp] theorem State.alert_onProfile (s : State) (p : ProfileId) (f : Profile → Profile) : (s.onProfile p f).alert = s.alert := rfl
@[simp] theorem State.inReset_onProfile (s : State) (p : ProfileId) (f : Profile → Profile) : (s.onProfile p f).inReset = s.inReset := rfl
@[simp] theorem State.ties_onProfile (s : State) (p : ProfileId) (f : Profile → Profile) : (s.onProfile p f).ties = s.ties := rfl
@[simp] theorem State.pending_onProfile (s : State) (p : ProfileId) (f : Profile → Profile) : (s.onProfile p f).pending = s.pending := rfl
@[simp] theorem State.cage_onProfile (s : State) (p : ProfileId) (f : Profile → Profile) (j : CageId) : (s.onProfile p f).cage j = s.cage j := rfl
@[simp] theorem State.group_onProfile (s : State) (p : ProfileId) (f : Profile → Profile) (g' : GroupId) : (s.onProfile p f).group g' = s.group g' := rfl

/-! ## A device flag -/

@[simp] theorem State.cages_latchDevice (s : State) (f : DeviceFlag) : (s.latchDevice f).cages = s.cages := rfl
@[simp] theorem State.groups_latchDevice (s : State) (f : DeviceFlag) : (s.latchDevice f).groups = s.groups := rfl
@[simp] theorem State.profiles_latchDevice (s : State) (f : DeviceFlag) : (s.latchDevice f).profiles = s.profiles := rfl
@[simp] theorem State.cache_latchDevice (s : State) (f : DeviceFlag) : (s.latchDevice f).cache = s.cache := rfl
@[simp] theorem State.queue_latchDevice (s : State) (f : DeviceFlag) : (s.latchDevice f).queue = s.queue := rfl
@[simp] theorem State.committed_latchDevice (s : State) (f : DeviceFlag) : (s.latchDevice f).committed = s.committed := rfl
@[simp] theorem State.settings_latchDevice (s : State) (f : DeviceFlag) : (s.latchDevice f).settings = s.settings := rfl
@[simp] theorem State.mode_latchDevice (s : State) (f : DeviceFlag) : (s.latchDevice f).mode = s.mode := rfl
@[simp] theorem State.straps_latchDevice (s : State) (f : DeviceFlag) : (s.latchDevice f).straps = s.straps := rfl
@[simp] theorem State.enables_latchDevice (s : State) (f : DeviceFlag) : (s.latchDevice f).enables = s.enables := rfl
@[simp] theorem State.counters_latchDevice (s : State) (f : DeviceFlag) : (s.latchDevice f).counters = s.counters := rfl
@[simp] theorem State.snapshot_latchDevice (s : State) (f : DeviceFlag) : (s.latchDevice f).snapshot = s.snapshot := rfl
@[simp] theorem State.alert_latchDevice (s : State) (f : DeviceFlag) : (s.latchDevice f).alert = s.alert := rfl
@[simp] theorem State.inReset_latchDevice (s : State) (f : DeviceFlag) : (s.latchDevice f).inReset = s.inReset := rfl
@[simp] theorem State.ties_latchDevice (s : State) (f : DeviceFlag) : (s.latchDevice f).ties = s.ties := rfl
@[simp] theorem State.pending_latchDevice (s : State) (f : DeviceFlag) : (s.latchDevice f).pending = s.pending := rfl
@[simp] theorem State.cage_latchDevice (s : State) (f : DeviceFlag) (j : CageId) : (s.latchDevice f).cage j = s.cage j := rfl
@[simp] theorem State.group_latchDevice (s : State) (f : DeviceFlag) (g' : GroupId) : (s.latchDevice f).group g' = s.group g' := rfl
@[simp] theorem State.profile_latchDevice (s : State) (f : DeviceFlag) (q : ProfileId) : (s.latchDevice f).profile q = s.profile q := rfl

/-! ## A device counter -/

@[simp] theorem State.cages_countDevice (s : State) (i : DeviceCounter) (n : Nat) : (s.countDevice i n).cages = s.cages := rfl
@[simp] theorem State.groups_countDevice (s : State) (i : DeviceCounter) (n : Nat) : (s.countDevice i n).groups = s.groups := rfl
@[simp] theorem State.profiles_countDevice (s : State) (i : DeviceCounter) (n : Nat) : (s.countDevice i n).profiles = s.profiles := rfl
@[simp] theorem State.cache_countDevice (s : State) (i : DeviceCounter) (n : Nat) : (s.countDevice i n).cache = s.cache := rfl
@[simp] theorem State.queue_countDevice (s : State) (i : DeviceCounter) (n : Nat) : (s.countDevice i n).queue = s.queue := rfl
@[simp] theorem State.committed_countDevice (s : State) (i : DeviceCounter) (n : Nat) : (s.countDevice i n).committed = s.committed := rfl
@[simp] theorem State.settings_countDevice (s : State) (i : DeviceCounter) (n : Nat) : (s.countDevice i n).settings = s.settings := rfl
@[simp] theorem State.mode_countDevice (s : State) (i : DeviceCounter) (n : Nat) : (s.countDevice i n).mode = s.mode := rfl
@[simp] theorem State.straps_countDevice (s : State) (i : DeviceCounter) (n : Nat) : (s.countDevice i n).straps = s.straps := rfl
@[simp] theorem State.flags_countDevice (s : State) (i : DeviceCounter) (n : Nat) : (s.countDevice i n).flags = s.flags := rfl
@[simp] theorem State.enables_countDevice (s : State) (i : DeviceCounter) (n : Nat) : (s.countDevice i n).enables = s.enables := rfl
@[simp] theorem State.snapshot_countDevice (s : State) (i : DeviceCounter) (n : Nat) : (s.countDevice i n).snapshot = s.snapshot := rfl
@[simp] theorem State.alert_countDevice (s : State) (i : DeviceCounter) (n : Nat) : (s.countDevice i n).alert = s.alert := rfl
@[simp] theorem State.inReset_countDevice (s : State) (i : DeviceCounter) (n : Nat) : (s.countDevice i n).inReset = s.inReset := rfl
@[simp] theorem State.ties_countDevice (s : State) (i : DeviceCounter) (n : Nat) : (s.countDevice i n).ties = s.ties := rfl
@[simp] theorem State.pending_countDevice (s : State) (i : DeviceCounter) (n : Nat) : (s.countDevice i n).pending = s.pending := rfl
@[simp] theorem State.cage_countDevice (s : State) (i : DeviceCounter) (n : Nat) (j : CageId) : (s.countDevice i n).cage j = s.cage j := rfl
@[simp] theorem State.group_countDevice (s : State) (i : DeviceCounter) (n : Nat) (g' : GroupId) : (s.countDevice i n).group g' = s.group g' := rfl
@[simp] theorem State.profile_countDevice (s : State) (i : DeviceCounter) (n : Nat) (q : ProfileId) : (s.countDevice i n).profile q = s.profile q := rfl

/-! ## ALERT -/

@[simp] theorem State.cages_driveAlert (s : State) : (s.driveAlert).cages = s.cages := rfl
@[simp] theorem State.groups_driveAlert (s : State) : (s.driveAlert).groups = s.groups := rfl
@[simp] theorem State.profiles_driveAlert (s : State) : (s.driveAlert).profiles = s.profiles := rfl
@[simp] theorem State.cache_driveAlert (s : State) : (s.driveAlert).cache = s.cache := rfl
@[simp] theorem State.queue_driveAlert (s : State) : (s.driveAlert).queue = s.queue := rfl
@[simp] theorem State.committed_driveAlert (s : State) : (s.driveAlert).committed = s.committed := rfl
@[simp] theorem State.settings_driveAlert (s : State) : (s.driveAlert).settings = s.settings := rfl
@[simp] theorem State.mode_driveAlert (s : State) : (s.driveAlert).mode = s.mode := rfl
@[simp] theorem State.straps_driveAlert (s : State) : (s.driveAlert).straps = s.straps := rfl
@[simp] theorem State.flags_driveAlert (s : State) : (s.driveAlert).flags = s.flags := rfl
@[simp] theorem State.enables_driveAlert (s : State) : (s.driveAlert).enables = s.enables := rfl
@[simp] theorem State.counters_driveAlert (s : State) : (s.driveAlert).counters = s.counters := rfl
@[simp] theorem State.snapshot_driveAlert (s : State) : (s.driveAlert).snapshot = s.snapshot := rfl
@[simp] theorem State.inReset_driveAlert (s : State) : (s.driveAlert).inReset = s.inReset := rfl
@[simp] theorem State.ties_driveAlert (s : State) : (s.driveAlert).ties = s.ties := rfl
@[simp] theorem State.pending_driveAlert (s : State) : (s.driveAlert).pending = s.pending := rfl
@[simp] theorem State.cage_driveAlert (s : State) (j : CageId) : (s.driveAlert).cage j = s.cage j := rfl
@[simp] theorem State.group_driveAlert (s : State) (g' : GroupId) : (s.driveAlert).group g' = s.group g' := rfl
@[simp] theorem State.profile_driveAlert (s : State) (q : ProfileId) : (s.driveAlert).profile q = s.profile q := rfl

/-! ## The parts of a cage (by which part is changed) -/

theorem State.onSeq_eq (s : State) (k : CageId) (f : Sequencer → Sequencer) :
    s.onSeq k f = s.onCage k fun c => { c with seq := f c.seq } := rfl

@[simp] theorem State.groups_onSeq (s : State) (k : CageId) (f : Sequencer → Sequencer) : (s.onSeq k f).groups = s.groups := rfl
@[simp] theorem State.profiles_onSeq (s : State) (k : CageId) (f : Sequencer → Sequencer) : (s.onSeq k f).profiles = s.profiles := rfl
@[simp] theorem State.cache_onSeq (s : State) (k : CageId) (f : Sequencer → Sequencer) : (s.onSeq k f).cache = s.cache := rfl
@[simp] theorem State.queue_onSeq (s : State) (k : CageId) (f : Sequencer → Sequencer) : (s.onSeq k f).queue = s.queue := rfl
@[simp] theorem State.committed_onSeq (s : State) (k : CageId) (f : Sequencer → Sequencer) : (s.onSeq k f).committed = s.committed := rfl
@[simp] theorem State.settings_onSeq (s : State) (k : CageId) (f : Sequencer → Sequencer) : (s.onSeq k f).settings = s.settings := rfl
@[simp] theorem State.mode_onSeq (s : State) (k : CageId) (f : Sequencer → Sequencer) : (s.onSeq k f).mode = s.mode := rfl
@[simp] theorem State.straps_onSeq (s : State) (k : CageId) (f : Sequencer → Sequencer) : (s.onSeq k f).straps = s.straps := rfl
@[simp] theorem State.flags_onSeq (s : State) (k : CageId) (f : Sequencer → Sequencer) : (s.onSeq k f).flags = s.flags := rfl
@[simp] theorem State.enables_onSeq (s : State) (k : CageId) (f : Sequencer → Sequencer) : (s.onSeq k f).enables = s.enables := rfl
@[simp] theorem State.counters_onSeq (s : State) (k : CageId) (f : Sequencer → Sequencer) : (s.onSeq k f).counters = s.counters := rfl
@[simp] theorem State.snapshot_onSeq (s : State) (k : CageId) (f : Sequencer → Sequencer) : (s.onSeq k f).snapshot = s.snapshot := rfl
@[simp] theorem State.alert_onSeq (s : State) (k : CageId) (f : Sequencer → Sequencer) : (s.onSeq k f).alert = s.alert := rfl
@[simp] theorem State.inReset_onSeq (s : State) (k : CageId) (f : Sequencer → Sequencer) : (s.onSeq k f).inReset = s.inReset := rfl
@[simp] theorem State.ties_onSeq (s : State) (k : CageId) (f : Sequencer → Sequencer) : (s.onSeq k f).ties = s.ties := rfl
@[simp] theorem State.pending_onSeq (s : State) (k : CageId) (f : Sequencer → Sequencer) : (s.onSeq k f).pending = s.pending := rfl
@[simp] theorem State.group_onSeq (s : State) (k : CageId) (f : Sequencer → Sequencer) (g' : GroupId) : (s.onSeq k f).group g' = s.group g' := rfl
@[simp] theorem State.profile_onSeq (s : State) (k : CageId) (f : Sequencer → Sequencer) (q : ProfileId) : (s.onSeq k f).profile q = s.profile q := rfl
@[simp] theorem State.cage_onSeq_self (s : State) (k : CageId) (f : Sequencer → Sequencer) :
    (s.onSeq k f).cage k = { s.cage k with seq := f (s.cage k).seq }.driveLines := State.cage_onCage_self ..
theorem State.cage_onSeq_ne (s : State) {j k : CageId} (h : j ≠ k) (f : Sequencer → Sequencer) :
    (s.onSeq k f).cage j = s.cage j := State.cage_onCage_ne s h _
theorem State.cage_onSeq (s : State) (j k : CageId) (f : Sequencer → Sequencer) :
    (s.onSeq k f).cage j = if j = k then { s.cage k with seq := f (s.cage k).seq }.driveLines else s.cage j :=
  State.cage_onCage ..

theorem State.onOps_eq (s : State) (k : CageId) (f : Operations → Operations) :
    s.onOps k f = s.onCage k fun c => { c with ops := f c.ops } := rfl

@[simp] theorem State.groups_onOps (s : State) (k : CageId) (f : Operations → Operations) : (s.onOps k f).groups = s.groups := rfl
@[simp] theorem State.profiles_onOps (s : State) (k : CageId) (f : Operations → Operations) : (s.onOps k f).profiles = s.profiles := rfl
@[simp] theorem State.cache_onOps (s : State) (k : CageId) (f : Operations → Operations) : (s.onOps k f).cache = s.cache := rfl
@[simp] theorem State.queue_onOps (s : State) (k : CageId) (f : Operations → Operations) : (s.onOps k f).queue = s.queue := rfl
@[simp] theorem State.committed_onOps (s : State) (k : CageId) (f : Operations → Operations) : (s.onOps k f).committed = s.committed := rfl
@[simp] theorem State.settings_onOps (s : State) (k : CageId) (f : Operations → Operations) : (s.onOps k f).settings = s.settings := rfl
@[simp] theorem State.mode_onOps (s : State) (k : CageId) (f : Operations → Operations) : (s.onOps k f).mode = s.mode := rfl
@[simp] theorem State.straps_onOps (s : State) (k : CageId) (f : Operations → Operations) : (s.onOps k f).straps = s.straps := rfl
@[simp] theorem State.flags_onOps (s : State) (k : CageId) (f : Operations → Operations) : (s.onOps k f).flags = s.flags := rfl
@[simp] theorem State.enables_onOps (s : State) (k : CageId) (f : Operations → Operations) : (s.onOps k f).enables = s.enables := rfl
@[simp] theorem State.counters_onOps (s : State) (k : CageId) (f : Operations → Operations) : (s.onOps k f).counters = s.counters := rfl
@[simp] theorem State.snapshot_onOps (s : State) (k : CageId) (f : Operations → Operations) : (s.onOps k f).snapshot = s.snapshot := rfl
@[simp] theorem State.alert_onOps (s : State) (k : CageId) (f : Operations → Operations) : (s.onOps k f).alert = s.alert := rfl
@[simp] theorem State.inReset_onOps (s : State) (k : CageId) (f : Operations → Operations) : (s.onOps k f).inReset = s.inReset := rfl
@[simp] theorem State.ties_onOps (s : State) (k : CageId) (f : Operations → Operations) : (s.onOps k f).ties = s.ties := rfl
@[simp] theorem State.pending_onOps (s : State) (k : CageId) (f : Operations → Operations) : (s.onOps k f).pending = s.pending := rfl
@[simp] theorem State.group_onOps (s : State) (k : CageId) (f : Operations → Operations) (g' : GroupId) : (s.onOps k f).group g' = s.group g' := rfl
@[simp] theorem State.profile_onOps (s : State) (k : CageId) (f : Operations → Operations) (q : ProfileId) : (s.onOps k f).profile q = s.profile q := rfl
@[simp] theorem State.cage_onOps_self (s : State) (k : CageId) (f : Operations → Operations) :
    (s.onOps k f).cage k = { s.cage k with ops := f (s.cage k).ops }.driveLines := State.cage_onCage_self ..
theorem State.cage_onOps_ne (s : State) {j k : CageId} (h : j ≠ k) (f : Operations → Operations) :
    (s.onOps k f).cage j = s.cage j := State.cage_onCage_ne s h _
theorem State.cage_onOps (s : State) (j k : CageId) (f : Operations → Operations) :
    (s.onOps k f).cage j = if j = k then { s.cage k with ops := f (s.cage k).ops }.driveLines else s.cage j :=
  State.cage_onCage ..

theorem State.onCtx_eq (s : State) (k : CageId) (f : Context → Context) :
    s.onCtx k f = s.onCage k fun c => { c with ctx := f c.ctx } := rfl

@[simp] theorem State.groups_onCtx (s : State) (k : CageId) (f : Context → Context) : (s.onCtx k f).groups = s.groups := rfl
@[simp] theorem State.profiles_onCtx (s : State) (k : CageId) (f : Context → Context) : (s.onCtx k f).profiles = s.profiles := rfl
@[simp] theorem State.cache_onCtx (s : State) (k : CageId) (f : Context → Context) : (s.onCtx k f).cache = s.cache := rfl
@[simp] theorem State.queue_onCtx (s : State) (k : CageId) (f : Context → Context) : (s.onCtx k f).queue = s.queue := rfl
@[simp] theorem State.committed_onCtx (s : State) (k : CageId) (f : Context → Context) : (s.onCtx k f).committed = s.committed := rfl
@[simp] theorem State.settings_onCtx (s : State) (k : CageId) (f : Context → Context) : (s.onCtx k f).settings = s.settings := rfl
@[simp] theorem State.mode_onCtx (s : State) (k : CageId) (f : Context → Context) : (s.onCtx k f).mode = s.mode := rfl
@[simp] theorem State.straps_onCtx (s : State) (k : CageId) (f : Context → Context) : (s.onCtx k f).straps = s.straps := rfl
@[simp] theorem State.flags_onCtx (s : State) (k : CageId) (f : Context → Context) : (s.onCtx k f).flags = s.flags := rfl
@[simp] theorem State.enables_onCtx (s : State) (k : CageId) (f : Context → Context) : (s.onCtx k f).enables = s.enables := rfl
@[simp] theorem State.counters_onCtx (s : State) (k : CageId) (f : Context → Context) : (s.onCtx k f).counters = s.counters := rfl
@[simp] theorem State.snapshot_onCtx (s : State) (k : CageId) (f : Context → Context) : (s.onCtx k f).snapshot = s.snapshot := rfl
@[simp] theorem State.alert_onCtx (s : State) (k : CageId) (f : Context → Context) : (s.onCtx k f).alert = s.alert := rfl
@[simp] theorem State.inReset_onCtx (s : State) (k : CageId) (f : Context → Context) : (s.onCtx k f).inReset = s.inReset := rfl
@[simp] theorem State.ties_onCtx (s : State) (k : CageId) (f : Context → Context) : (s.onCtx k f).ties = s.ties := rfl
@[simp] theorem State.pending_onCtx (s : State) (k : CageId) (f : Context → Context) : (s.onCtx k f).pending = s.pending := rfl
@[simp] theorem State.group_onCtx (s : State) (k : CageId) (f : Context → Context) (g' : GroupId) : (s.onCtx k f).group g' = s.group g' := rfl
@[simp] theorem State.profile_onCtx (s : State) (k : CageId) (f : Context → Context) (q : ProfileId) : (s.onCtx k f).profile q = s.profile q := rfl
@[simp] theorem State.cage_onCtx_self (s : State) (k : CageId) (f : Context → Context) :
    (s.onCtx k f).cage k = { s.cage k with ctx := f (s.cage k).ctx }.driveLines := State.cage_onCage_self ..
theorem State.cage_onCtx_ne (s : State) {j k : CageId} (h : j ≠ k) (f : Context → Context) :
    (s.onCtx k f).cage j = s.cage j := State.cage_onCage_ne s h _
theorem State.cage_onCtx (s : State) (j k : CageId) (f : Context → Context) :
    (s.onCtx k f).cage j = if j = k then { s.cage k with ctx := f (s.cage k).ctx }.driveLines else s.cage j :=
  State.cage_onCage ..

theorem State.onJournal_eq (s : State) (k : CageId) (f : Journal → Journal) :
    s.onJournal k f = s.onCage k fun c => { c with journal := f c.journal } := rfl

@[simp] theorem State.groups_onJournal (s : State) (k : CageId) (f : Journal → Journal) : (s.onJournal k f).groups = s.groups := rfl
@[simp] theorem State.profiles_onJournal (s : State) (k : CageId) (f : Journal → Journal) : (s.onJournal k f).profiles = s.profiles := rfl
@[simp] theorem State.cache_onJournal (s : State) (k : CageId) (f : Journal → Journal) : (s.onJournal k f).cache = s.cache := rfl
@[simp] theorem State.queue_onJournal (s : State) (k : CageId) (f : Journal → Journal) : (s.onJournal k f).queue = s.queue := rfl
@[simp] theorem State.committed_onJournal (s : State) (k : CageId) (f : Journal → Journal) : (s.onJournal k f).committed = s.committed := rfl
@[simp] theorem State.settings_onJournal (s : State) (k : CageId) (f : Journal → Journal) : (s.onJournal k f).settings = s.settings := rfl
@[simp] theorem State.mode_onJournal (s : State) (k : CageId) (f : Journal → Journal) : (s.onJournal k f).mode = s.mode := rfl
@[simp] theorem State.straps_onJournal (s : State) (k : CageId) (f : Journal → Journal) : (s.onJournal k f).straps = s.straps := rfl
@[simp] theorem State.flags_onJournal (s : State) (k : CageId) (f : Journal → Journal) : (s.onJournal k f).flags = s.flags := rfl
@[simp] theorem State.enables_onJournal (s : State) (k : CageId) (f : Journal → Journal) : (s.onJournal k f).enables = s.enables := rfl
@[simp] theorem State.counters_onJournal (s : State) (k : CageId) (f : Journal → Journal) : (s.onJournal k f).counters = s.counters := rfl
@[simp] theorem State.snapshot_onJournal (s : State) (k : CageId) (f : Journal → Journal) : (s.onJournal k f).snapshot = s.snapshot := rfl
@[simp] theorem State.alert_onJournal (s : State) (k : CageId) (f : Journal → Journal) : (s.onJournal k f).alert = s.alert := rfl
@[simp] theorem State.inReset_onJournal (s : State) (k : CageId) (f : Journal → Journal) : (s.onJournal k f).inReset = s.inReset := rfl
@[simp] theorem State.ties_onJournal (s : State) (k : CageId) (f : Journal → Journal) : (s.onJournal k f).ties = s.ties := rfl
@[simp] theorem State.pending_onJournal (s : State) (k : CageId) (f : Journal → Journal) : (s.onJournal k f).pending = s.pending := rfl
@[simp] theorem State.group_onJournal (s : State) (k : CageId) (f : Journal → Journal) (g' : GroupId) : (s.onJournal k f).group g' = s.group g' := rfl
@[simp] theorem State.profile_onJournal (s : State) (k : CageId) (f : Journal → Journal) (q : ProfileId) : (s.onJournal k f).profile q = s.profile q := rfl
@[simp] theorem State.cage_onJournal_self (s : State) (k : CageId) (f : Journal → Journal) :
    (s.onJournal k f).cage k = { s.cage k with journal := f (s.cage k).journal }.driveLines := State.cage_onCage_self ..
theorem State.cage_onJournal_ne (s : State) {j k : CageId} (h : j ≠ k) (f : Journal → Journal) :
    (s.onJournal k f).cage j = s.cage j := State.cage_onCage_ne s h _
theorem State.cage_onJournal (s : State) (j k : CageId) (f : Journal → Journal) :
    (s.onJournal k f).cage j = if j = k then { s.cage k with journal := f (s.cage k).journal }.driveLines else s.cage j :=
  State.cage_onCage ..

theorem State.onLight_eq (s : State) (k : CageId) (f : LightMonitor → LightMonitor) :
    s.onLight k f = s.onCage k fun c => { c with light := f c.light } := rfl

@[simp] theorem State.groups_onLight (s : State) (k : CageId) (f : LightMonitor → LightMonitor) : (s.onLight k f).groups = s.groups := rfl
@[simp] theorem State.profiles_onLight (s : State) (k : CageId) (f : LightMonitor → LightMonitor) : (s.onLight k f).profiles = s.profiles := rfl
@[simp] theorem State.cache_onLight (s : State) (k : CageId) (f : LightMonitor → LightMonitor) : (s.onLight k f).cache = s.cache := rfl
@[simp] theorem State.queue_onLight (s : State) (k : CageId) (f : LightMonitor → LightMonitor) : (s.onLight k f).queue = s.queue := rfl
@[simp] theorem State.committed_onLight (s : State) (k : CageId) (f : LightMonitor → LightMonitor) : (s.onLight k f).committed = s.committed := rfl
@[simp] theorem State.settings_onLight (s : State) (k : CageId) (f : LightMonitor → LightMonitor) : (s.onLight k f).settings = s.settings := rfl
@[simp] theorem State.mode_onLight (s : State) (k : CageId) (f : LightMonitor → LightMonitor) : (s.onLight k f).mode = s.mode := rfl
@[simp] theorem State.straps_onLight (s : State) (k : CageId) (f : LightMonitor → LightMonitor) : (s.onLight k f).straps = s.straps := rfl
@[simp] theorem State.flags_onLight (s : State) (k : CageId) (f : LightMonitor → LightMonitor) : (s.onLight k f).flags = s.flags := rfl
@[simp] theorem State.enables_onLight (s : State) (k : CageId) (f : LightMonitor → LightMonitor) : (s.onLight k f).enables = s.enables := rfl
@[simp] theorem State.counters_onLight (s : State) (k : CageId) (f : LightMonitor → LightMonitor) : (s.onLight k f).counters = s.counters := rfl
@[simp] theorem State.snapshot_onLight (s : State) (k : CageId) (f : LightMonitor → LightMonitor) : (s.onLight k f).snapshot = s.snapshot := rfl
@[simp] theorem State.alert_onLight (s : State) (k : CageId) (f : LightMonitor → LightMonitor) : (s.onLight k f).alert = s.alert := rfl
@[simp] theorem State.inReset_onLight (s : State) (k : CageId) (f : LightMonitor → LightMonitor) : (s.onLight k f).inReset = s.inReset := rfl
@[simp] theorem State.ties_onLight (s : State) (k : CageId) (f : LightMonitor → LightMonitor) : (s.onLight k f).ties = s.ties := rfl
@[simp] theorem State.pending_onLight (s : State) (k : CageId) (f : LightMonitor → LightMonitor) : (s.onLight k f).pending = s.pending := rfl
@[simp] theorem State.group_onLight (s : State) (k : CageId) (f : LightMonitor → LightMonitor) (g' : GroupId) : (s.onLight k f).group g' = s.group g' := rfl
@[simp] theorem State.profile_onLight (s : State) (k : CageId) (f : LightMonitor → LightMonitor) (q : ProfileId) : (s.onLight k f).profile q = s.profile q := rfl
@[simp] theorem State.cage_onLight_self (s : State) (k : CageId) (f : LightMonitor → LightMonitor) :
    (s.onLight k f).cage k = { s.cage k with light := f (s.cage k).light }.driveLines := State.cage_onCage_self ..
theorem State.cage_onLight_ne (s : State) {j k : CageId} (h : j ≠ k) (f : LightMonitor → LightMonitor) :
    (s.onLight k f).cage j = s.cage j := State.cage_onCage_ne s h _
theorem State.cage_onLight (s : State) (j k : CageId) (f : LightMonitor → LightMonitor) :
    (s.onLight k f).cage j = if j = k then { s.cage k with light := f (s.cage k).light }.driveLines else s.cage j :=
  State.cage_onCage ..

theorem State.onQual_eq (s : State) (k : CageId) (f : Qualifier → Qualifier) :
    s.onQual k f = s.onCage k fun c => { c with qual := f c.qual } := rfl

@[simp] theorem State.groups_onQual (s : State) (k : CageId) (f : Qualifier → Qualifier) : (s.onQual k f).groups = s.groups := rfl
@[simp] theorem State.profiles_onQual (s : State) (k : CageId) (f : Qualifier → Qualifier) : (s.onQual k f).profiles = s.profiles := rfl
@[simp] theorem State.cache_onQual (s : State) (k : CageId) (f : Qualifier → Qualifier) : (s.onQual k f).cache = s.cache := rfl
@[simp] theorem State.queue_onQual (s : State) (k : CageId) (f : Qualifier → Qualifier) : (s.onQual k f).queue = s.queue := rfl
@[simp] theorem State.committed_onQual (s : State) (k : CageId) (f : Qualifier → Qualifier) : (s.onQual k f).committed = s.committed := rfl
@[simp] theorem State.settings_onQual (s : State) (k : CageId) (f : Qualifier → Qualifier) : (s.onQual k f).settings = s.settings := rfl
@[simp] theorem State.mode_onQual (s : State) (k : CageId) (f : Qualifier → Qualifier) : (s.onQual k f).mode = s.mode := rfl
@[simp] theorem State.straps_onQual (s : State) (k : CageId) (f : Qualifier → Qualifier) : (s.onQual k f).straps = s.straps := rfl
@[simp] theorem State.flags_onQual (s : State) (k : CageId) (f : Qualifier → Qualifier) : (s.onQual k f).flags = s.flags := rfl
@[simp] theorem State.enables_onQual (s : State) (k : CageId) (f : Qualifier → Qualifier) : (s.onQual k f).enables = s.enables := rfl
@[simp] theorem State.counters_onQual (s : State) (k : CageId) (f : Qualifier → Qualifier) : (s.onQual k f).counters = s.counters := rfl
@[simp] theorem State.snapshot_onQual (s : State) (k : CageId) (f : Qualifier → Qualifier) : (s.onQual k f).snapshot = s.snapshot := rfl
@[simp] theorem State.alert_onQual (s : State) (k : CageId) (f : Qualifier → Qualifier) : (s.onQual k f).alert = s.alert := rfl
@[simp] theorem State.inReset_onQual (s : State) (k : CageId) (f : Qualifier → Qualifier) : (s.onQual k f).inReset = s.inReset := rfl
@[simp] theorem State.ties_onQual (s : State) (k : CageId) (f : Qualifier → Qualifier) : (s.onQual k f).ties = s.ties := rfl
@[simp] theorem State.pending_onQual (s : State) (k : CageId) (f : Qualifier → Qualifier) : (s.onQual k f).pending = s.pending := rfl
@[simp] theorem State.group_onQual (s : State) (k : CageId) (f : Qualifier → Qualifier) (g' : GroupId) : (s.onQual k f).group g' = s.group g' := rfl
@[simp] theorem State.profile_onQual (s : State) (k : CageId) (f : Qualifier → Qualifier) (q : ProfileId) : (s.onQual k f).profile q = s.profile q := rfl
@[simp] theorem State.cage_onQual_self (s : State) (k : CageId) (f : Qualifier → Qualifier) :
    (s.onQual k f).cage k = { s.cage k with qual := f (s.cage k).qual }.driveLines := State.cage_onCage_self ..
theorem State.cage_onQual_ne (s : State) {j k : CageId} (h : j ≠ k) (f : Qualifier → Qualifier) :
    (s.onQual k f).cage j = s.cage j := State.cage_onCage_ne s h _
theorem State.cage_onQual (s : State) (j k : CageId) (f : Qualifier → Qualifier) :
    (s.onQual k f).cage j = if j = k then { s.cage k with qual := f (s.cage k).qual }.driveLines else s.cage j :=
  State.cage_onCage ..

@[simp] theorem State.groups_latch (s : State) (k : CageId) (f : CageFlag) : (s.latch k f).groups = s.groups := rfl
@[simp] theorem State.profiles_latch (s : State) (k : CageId) (f : CageFlag) : (s.latch k f).profiles = s.profiles := rfl
@[simp] theorem State.cache_latch (s : State) (k : CageId) (f : CageFlag) : (s.latch k f).cache = s.cache := rfl
@[simp] theorem State.queue_latch (s : State) (k : CageId) (f : CageFlag) : (s.latch k f).queue = s.queue := rfl
@[simp] theorem State.committed_latch (s : State) (k : CageId) (f : CageFlag) : (s.latch k f).committed = s.committed := rfl
@[simp] theorem State.settings_latch (s : State) (k : CageId) (f : CageFlag) : (s.latch k f).settings = s.settings := rfl
@[simp] theorem State.mode_latch (s : State) (k : CageId) (f : CageFlag) : (s.latch k f).mode = s.mode := rfl
@[simp] theorem State.straps_latch (s : State) (k : CageId) (f : CageFlag) : (s.latch k f).straps = s.straps := rfl
@[simp] theorem State.flags_latch (s : State) (k : CageId) (f : CageFlag) : (s.latch k f).flags = s.flags := rfl
@[simp] theorem State.enables_latch (s : State) (k : CageId) (f : CageFlag) : (s.latch k f).enables = s.enables := rfl
@[simp] theorem State.counters_latch (s : State) (k : CageId) (f : CageFlag) : (s.latch k f).counters = s.counters := rfl
@[simp] theorem State.snapshot_latch (s : State) (k : CageId) (f : CageFlag) : (s.latch k f).snapshot = s.snapshot := rfl
@[simp] theorem State.alert_latch (s : State) (k : CageId) (f : CageFlag) : (s.latch k f).alert = s.alert := rfl
@[simp] theorem State.inReset_latch (s : State) (k : CageId) (f : CageFlag) : (s.latch k f).inReset = s.inReset := rfl
@[simp] theorem State.ties_latch (s : State) (k : CageId) (f : CageFlag) : (s.latch k f).ties = s.ties := rfl
@[simp] theorem State.pending_latch (s : State) (k : CageId) (f : CageFlag) : (s.latch k f).pending = s.pending := rfl
@[simp] theorem State.group_latch (s : State) (k : CageId) (f : CageFlag) (g' : GroupId) : (s.latch k f).group g' = s.group g' := rfl
@[simp] theorem State.profile_latch (s : State) (k : CageId) (f : CageFlag) (q : ProfileId) : (s.latch k f).profile q = s.profile q := rfl
@[simp] theorem State.cage_latch_self (s : State) (k : CageId) (f : CageFlag) : (s.latch k f).cage k = ((s.cage k).latch f).driveLines :=
  State.cage_onCage_self ..
theorem State.cage_latch_ne (s : State) {j k : CageId} (h : j ≠ k) (f : CageFlag) :
    (s.latch k f).cage j = s.cage j := State.cage_onCage_ne s h _

@[simp] theorem State.groups_count (s : State) (k : CageId) (f : CageCounter) : (s.count k f).groups = s.groups := rfl
@[simp] theorem State.profiles_count (s : State) (k : CageId) (f : CageCounter) : (s.count k f).profiles = s.profiles := rfl
@[simp] theorem State.cache_count (s : State) (k : CageId) (f : CageCounter) : (s.count k f).cache = s.cache := rfl
@[simp] theorem State.queue_count (s : State) (k : CageId) (f : CageCounter) : (s.count k f).queue = s.queue := rfl
@[simp] theorem State.committed_count (s : State) (k : CageId) (f : CageCounter) : (s.count k f).committed = s.committed := rfl
@[simp] theorem State.settings_count (s : State) (k : CageId) (f : CageCounter) : (s.count k f).settings = s.settings := rfl
@[simp] theorem State.mode_count (s : State) (k : CageId) (f : CageCounter) : (s.count k f).mode = s.mode := rfl
@[simp] theorem State.straps_count (s : State) (k : CageId) (f : CageCounter) : (s.count k f).straps = s.straps := rfl
@[simp] theorem State.flags_count (s : State) (k : CageId) (f : CageCounter) : (s.count k f).flags = s.flags := rfl
@[simp] theorem State.enables_count (s : State) (k : CageId) (f : CageCounter) : (s.count k f).enables = s.enables := rfl
@[simp] theorem State.counters_count (s : State) (k : CageId) (f : CageCounter) : (s.count k f).counters = s.counters := rfl
@[simp] theorem State.snapshot_count (s : State) (k : CageId) (f : CageCounter) : (s.count k f).snapshot = s.snapshot := rfl
@[simp] theorem State.alert_count (s : State) (k : CageId) (f : CageCounter) : (s.count k f).alert = s.alert := rfl
@[simp] theorem State.inReset_count (s : State) (k : CageId) (f : CageCounter) : (s.count k f).inReset = s.inReset := rfl
@[simp] theorem State.ties_count (s : State) (k : CageId) (f : CageCounter) : (s.count k f).ties = s.ties := rfl
@[simp] theorem State.pending_count (s : State) (k : CageId) (f : CageCounter) : (s.count k f).pending = s.pending := rfl
@[simp] theorem State.group_count (s : State) (k : CageId) (f : CageCounter) (g' : GroupId) : (s.count k f).group g' = s.group g' := rfl
@[simp] theorem State.profile_count (s : State) (k : CageId) (f : CageCounter) (q : ProfileId) : (s.count k f).profile q = s.profile q := rfl
@[simp] theorem State.cage_count_self (s : State) (k : CageId) (f : CageCounter) : (s.count k f).cage k = ((s.cage k).count f).driveLines :=
  State.cage_onCage_self ..
theorem State.cage_count_ne (s : State) {j k : CageId} (h : j ≠ k) (f : CageCounter) :
    (s.count k f).cage j = s.cage j := State.cage_onCage_ne s h _

/-! ## The lines of a cage -/

@[simp] theorem Cage.ctx_driveLines (c : Cage) : c.driveLines.ctx = c.ctx := rfl
@[simp] theorem Cage.qual_driveLines (c : Cage) : c.driveLines.qual = c.qual := rfl
@[simp] theorem Cage.seq_driveLines (c : Cage) : c.driveLines.seq = c.seq := rfl
@[simp] theorem Cage.ops_driveLines (c : Cage) : c.driveLines.ops = c.ops := rfl
@[simp] theorem Cage.light_driveLines (c : Cage) : c.driveLines.light = c.light := rfl
@[simp] theorem Cage.ledger_driveLines (c : Cage) : c.driveLines.ledger = c.ledger := rfl
@[simp] theorem Cage.journal_driveLines (c : Cage) : c.driveLines.journal = c.journal := rfl
@[simp] theorem Cage.standing_driveLines (c : Cage) : c.driveLines.standing = c.standing := rfl
@[simp] theorem Cage.binding_driveLines (c : Cage) : c.driveLines.binding = c.binding := rfl
@[simp] theorem Cage.settings_driveLines (c : Cage) : c.driveLines.settings = c.settings := rfl
@[simp] theorem Cage.events_driveLines (c : Cage) : c.driveLines.events = c.events := rfl
@[simp] theorem Cage.control_driveLines (c : Cage) : c.driveLines.control = c.control := rfl
@[simp] theorem Cage.slot_driveLines (c : Cage) : c.driveLines.slot = c.slot := rfl
@[simp] theorem Cage.slotQueue_driveLines (c : Cage) : c.driveLines.slotQueue = c.slotQueue := rfl
@[simp] theorem Cage.lines_mrstOwner_driveLines (c : Cage) : c.driveLines.lines.mrstOwner = c.lines.mrstOwner := rfl
@[simp] theorem Cage.lines_mlowOwner_driveLines (c : Cage) : c.driveLines.lines.mlowOwner = c.lines.mlowOwner := rfl
@[simp] theorem Cage.lines_pulse_driveLines (c : Cage) : c.driveLines.lines.pulse = c.lines.pulse := rfl
@[simp] theorem Cage.hpd_driveLines (c : Cage) : c.driveLines.lines.hpd = c.hpdLevel := rfl
@[simp] theorem Cage.hirq_driveLines (c : Cage) : c.driveLines.lines.hirq = c.hirqLevel := rfl
@[simp] theorem Cage.mrstEngine_driveLines (c : Cage) : c.driveLines.mrstEngine = c.mrstEngine := rfl
@[simp] theorem Cage.mlowEngine_driveLines (c : Cage) : c.driveLines.mlowEngine = c.mlowEngine := rfl
theorem Cage.mrst_driveLines (c : Cage) : c.driveLines.lines.mrst =
    if c.lines.mrstOwner = .engine then c.mrstEngine else c.lines.mrst := rfl
theorem Cage.mlow_driveLines (c : Cage) : c.driveLines.lines.mlow =
    if c.lines.mlowOwner = .engine then c.mlowEngine else c.lines.mlow := rfl

/-- R89, R94, R95: driven lines stay as they are. -/
@[simp] theorem Cage.driveLines_driveLines (c : Cage) : c.driveLines.driveLines = c.driveLines := by
  unfold Cage.driveLines
  by_cases h : c.lines.mrstOwner = .engine <;> by_cases h' : c.lines.mlowOwner = .engine <;>
    simp [h, h', Cage.mrstEngine, Cage.mlowEngine, Cage.hpdLevel, Cage.hirqLevel]

/-! ## Flags and counters of a cage -/

@[simp] theorem Cage.ctx_latch (c : Cage) (f : CageFlag) : (c.latch f).ctx = c.ctx := rfl
@[simp] theorem Cage.qual_latch (c : Cage) (f : CageFlag) : (c.latch f).qual = c.qual := rfl
@[simp] theorem Cage.seq_latch (c : Cage) (f : CageFlag) : (c.latch f).seq = c.seq := rfl
@[simp] theorem Cage.ops_latch (c : Cage) (f : CageFlag) : (c.latch f).ops = c.ops := rfl
@[simp] theorem Cage.light_latch (c : Cage) (f : CageFlag) : (c.latch f).light = c.light := rfl
@[simp] theorem Cage.ledger_latch (c : Cage) (f : CageFlag) : (c.latch f).ledger = c.ledger := rfl
@[simp] theorem Cage.journal_latch (c : Cage) (f : CageFlag) : (c.latch f).journal = c.journal := rfl
@[simp] theorem Cage.standing_latch (c : Cage) (f : CageFlag) : (c.latch f).standing = c.standing := rfl
@[simp] theorem Cage.binding_latch (c : Cage) (f : CageFlag) : (c.latch f).binding = c.binding := rfl
@[simp] theorem Cage.settings_latch (c : Cage) (f : CageFlag) : (c.latch f).settings = c.settings := rfl
@[simp] theorem Cage.control_latch (c : Cage) (f : CageFlag) : (c.latch f).control = c.control := rfl
@[simp] theorem Cage.slot_latch (c : Cage) (f : CageFlag) : (c.latch f).slot = c.slot := rfl
@[simp] theorem Cage.slotQueue_latch (c : Cage) (f : CageFlag) : (c.latch f).slotQueue = c.slotQueue := rfl
@[simp] theorem Cage.lines_latch (c : Cage) (f : CageFlag) : (c.latch f).lines = c.lines := rfl
@[simp] theorem Cage.enables_latch (c : Cage) (f : CageFlag) : (c.latch f).events.enables = c.events.enables := rfl
@[simp] theorem Cage.lastAbsence_latch (c : Cage) (f : CageFlag) : (c.latch f).events.lastAbsence = c.events.lastAbsence := rfl
@[simp] theorem Cage.lastRecovery_latch (c : Cage) (f : CageFlag) : (c.latch f).events.lastRecovery = c.events.lastRecovery := rfl
@[simp] theorem Cage.snapshot_latch (c : Cage) (f : CageFlag) : (c.latch f).events.snapshot = c.events.snapshot := rfl
@[simp] theorem Cage.ctx_countN (c : Cage) (i : CageCounter) (n : Nat) : (c.countN i n).ctx = c.ctx := rfl
@[simp] theorem Cage.qual_countN (c : Cage) (i : CageCounter) (n : Nat) : (c.countN i n).qual = c.qual := rfl
@[simp] theorem Cage.seq_countN (c : Cage) (i : CageCounter) (n : Nat) : (c.countN i n).seq = c.seq := rfl
@[simp] theorem Cage.ops_countN (c : Cage) (i : CageCounter) (n : Nat) : (c.countN i n).ops = c.ops := rfl
@[simp] theorem Cage.light_countN (c : Cage) (i : CageCounter) (n : Nat) : (c.countN i n).light = c.light := rfl
@[simp] theorem Cage.ledger_countN (c : Cage) (i : CageCounter) (n : Nat) : (c.countN i n).ledger = c.ledger := rfl
@[simp] theorem Cage.journal_countN (c : Cage) (i : CageCounter) (n : Nat) : (c.countN i n).journal = c.journal := rfl
@[simp] theorem Cage.standing_countN (c : Cage) (i : CageCounter) (n : Nat) : (c.countN i n).standing = c.standing := rfl
@[simp] theorem Cage.binding_countN (c : Cage) (i : CageCounter) (n : Nat) : (c.countN i n).binding = c.binding := rfl
@[simp] theorem Cage.settings_countN (c : Cage) (i : CageCounter) (n : Nat) : (c.countN i n).settings = c.settings := rfl
@[simp] theorem Cage.control_countN (c : Cage) (i : CageCounter) (n : Nat) : (c.countN i n).control = c.control := rfl
@[simp] theorem Cage.slot_countN (c : Cage) (i : CageCounter) (n : Nat) : (c.countN i n).slot = c.slot := rfl
@[simp] theorem Cage.slotQueue_countN (c : Cage) (i : CageCounter) (n : Nat) : (c.countN i n).slotQueue = c.slotQueue := rfl
@[simp] theorem Cage.lines_countN (c : Cage) (i : CageCounter) (n : Nat) : (c.countN i n).lines = c.lines := rfl
@[simp] theorem Cage.enables_countN (c : Cage) (i : CageCounter) (n : Nat) : (c.countN i n).events.enables = c.events.enables := rfl
@[simp] theorem Cage.lastAbsence_countN (c : Cage) (i : CageCounter) (n : Nat) : (c.countN i n).events.lastAbsence = c.events.lastAbsence := rfl
@[simp] theorem Cage.lastRecovery_countN (c : Cage) (i : CageCounter) (n : Nat) : (c.countN i n).events.lastRecovery = c.events.lastRecovery := rfl
@[simp] theorem Cage.snapshot_countN (c : Cage) (i : CageCounter) (n : Nat) : (c.countN i n).events.snapshot = c.events.snapshot := rfl
@[simp] theorem Cage.ctx_count (c : Cage) (i : CageCounter) : (c.count i).ctx = c.ctx := rfl
@[simp] theorem Cage.qual_count (c : Cage) (i : CageCounter) : (c.count i).qual = c.qual := rfl
@[simp] theorem Cage.seq_count (c : Cage) (i : CageCounter) : (c.count i).seq = c.seq := rfl
@[simp] theorem Cage.ops_count (c : Cage) (i : CageCounter) : (c.count i).ops = c.ops := rfl
@[simp] theorem Cage.light_count (c : Cage) (i : CageCounter) : (c.count i).light = c.light := rfl
@[simp] theorem Cage.ledger_count (c : Cage) (i : CageCounter) : (c.count i).ledger = c.ledger := rfl
@[simp] theorem Cage.journal_count (c : Cage) (i : CageCounter) : (c.count i).journal = c.journal := rfl
@[simp] theorem Cage.standing_count (c : Cage) (i : CageCounter) : (c.count i).standing = c.standing := rfl
@[simp] theorem Cage.binding_count (c : Cage) (i : CageCounter) : (c.count i).binding = c.binding := rfl
@[simp] theorem Cage.settings_count (c : Cage) (i : CageCounter) : (c.count i).settings = c.settings := rfl
@[simp] theorem Cage.control_count (c : Cage) (i : CageCounter) : (c.count i).control = c.control := rfl
@[simp] theorem Cage.slot_count (c : Cage) (i : CageCounter) : (c.count i).slot = c.slot := rfl
@[simp] theorem Cage.slotQueue_count (c : Cage) (i : CageCounter) : (c.count i).slotQueue = c.slotQueue := rfl
@[simp] theorem Cage.lines_count (c : Cage) (i : CageCounter) : (c.count i).lines = c.lines := rfl
@[simp] theorem Cage.enables_count (c : Cage) (i : CageCounter) : (c.count i).events.enables = c.events.enables := rfl
@[simp] theorem Cage.lastAbsence_count (c : Cage) (i : CageCounter) : (c.count i).events.lastAbsence = c.events.lastAbsence := rfl
@[simp] theorem Cage.lastRecovery_count (c : Cage) (i : CageCounter) : (c.count i).events.lastRecovery = c.events.lastRecovery := rfl
@[simp] theorem Cage.snapshot_count (c : Cage) (i : CageCounter) : (c.count i).events.snapshot = c.events.snapshot := rfl
@[simp] theorem Cage.counters_latch (c : Cage) (f : CageFlag) : (c.latch f).events.counters = c.events.counters := rfl
@[simp] theorem Cage.flags_countN (c : Cage) (i : CageCounter) (n : Nat) : (c.countN i n).events.flags = c.events.flags := rfl
@[simp] theorem Cage.flags_count (c : Cage) (i : CageCounter) : (c.count i).events.flags = c.events.flags := rfl

end Sys2Proof.Machine
end

