-- ==== Sys2Proof/Laws/Closure.lean ====
section
/-! SUPPORT. What every shared operation can do, said once. `Closed k R` says that a relation between states holds of
the primitive updates an event of cage `k` is built from; one lemma per operation then carries the relation across it.
An invariant of every command, or a frame of the cages an event does not address, is one relation `R`. -/

namespace Sys2Proof.Machine

/-! ## What an update does to one cage -/

/-- What an event may do to its own cage: anything that keeps the charge, the counters and the number of records or
fewer; a count; a snapshot. -/
inductive Moves : Cage → Cage → Prop
  | keep {c d : Cage} : d.events.counters = c.events.counters → d.ledger.charge = c.ledger.charge →
      d.journal.list.length ≤ c.journal.list.length → Moves c d
  | count (c : Cage) (i : CageCounter) (n : Nat) : Moves c (c.countN i n)
  | snapshot (c : Cage) : Moves c { c with events := c.events.takeSnapshot }
  | trans {c d e : Cage} : Moves c d → Moves d e → Moves c e

/-- What an event may do to any cage: the parts named here stand. -/
structure Quiet (c d : Cage) : Prop where
  qual : d.qual = c.qual
  journal : d.journal = c.journal
  standing : d.standing = c.standing
  binding : d.binding = c.binding
  settings : d.settings = c.settings
  control : d.control = c.control
  light : d.light = c.light
  baseline : d.seq.baseline = c.seq.baseline
  outcome : d.seq.outcome = c.seq.outcome
  declared : d.seq.declared = c.seq.declared
  counters : d.events.counters = c.events.counters
  charge : d.ledger.charge = c.ledger.charge
  mrstOwner : d.lines.mrstOwner = c.lines.mrstOwner
  mlowOwner : d.lines.mlowOwner = c.lines.mlowOwner
  pulse : d.lines.pulse = c.lines.pulse

theorem Quiet.refl (c : Cage) : Quiet c c :=
  ⟨rfl, rfl, rfl, rfl, rfl, rfl, rfl, rfl, rfl, rfl, rfl, rfl, rfl, rfl, rfl⟩

theorem Quiet.trans {c d e : Cage} (a : Quiet c d) (b : Quiet d e) : Quiet c e :=
  ⟨b.qual.trans a.qual, b.journal.trans a.journal, b.standing.trans a.standing, b.binding.trans a.binding,
    b.settings.trans a.settings, b.control.trans a.control, b.light.trans a.light,
    b.baseline.trans a.baseline, b.outcome.trans a.outcome, b.declared.trans a.declared,
    b.counters.trans a.counters, b.charge.trans a.charge, b.mrstOwner.trans a.mrstOwner,
    b.mlowOwner.trans a.mlowOwner, b.pulse.trans a.pulse⟩

theorem Quiet.moves {c d : Cage} (h : Quiet c d) : Moves c d :=
  .keep h.counters h.charge (by rw [h.journal])

theorem Moves.refl (c : Cage) : Moves c c := .keep rfl rfl le_rfl

theorem Cage.fillSlot_quiet (c : Cage) : Quiet c c.fillSlot := by
  unfold Cage.fillSlot
  split <;> exact ⟨rfl, rfl, rfl, rfl, rfl, rfl, rfl, rfl, rfl, rfl, rfl, rfl, rfl, rfl, rfl⟩

/-- Only the slot and its queue change. -/
theorem Quiet.slots (c : Cage) (x : Slot) (q : List (Agent × Request)) :
    Quiet c { c with slot := x, slotQueue := q }.fillSlot :=
  Quiet.trans (d := { c with slot := x, slotQueue := q })
    ⟨rfl, rfl, rfl, rfl, rfl, rfl, rfl, rfl, rfl, rfl, rfl, rfl, rfl, rfl, rfl⟩ (Cage.fillSlot_quiet _)

theorem Cage.withdrawAgent_quiet (c : Cage) (a : Agent) : Quiet c (c.withdrawAgent a) := Quiet.slots ..

/-- The parts of the state that a primitive of the ports, flags, enables, mode or model's own fields leaves alone. -/
structure SameCore (s t : State) : Prop where
  cages : t.cages = s.cages
  profiles : t.profiles = s.profiles
  settings : t.settings = s.settings
  committed : t.committed = s.committed
  straps : t.straps = s.straps
  counters : t.counters = s.counters
  cache : t.cache = s.cache
  queue : t.queue = s.queue

/-- What the wait queue looks like apart from the passed counts. -/
def queueShape (q : List QueueEntry) : List (CageId × Nat) := q.map fun e => (e.cage, e.priority)

/-! ## Relations closed under the primitive updates -/

/-- The primitive updates of an event of cage `k`. -/
structure Closed (k : CageId) (R : State → State → Prop) : Prop where
  refl : ∀ s, R s s
  trans : ∀ {s t u}, R s t → R t u → R s u
  own0 : ∀ s f, (∀ c, Moves c (f c)) → R s (s.onCage k f)
  quiet0 : ∀ s j f, (∀ c, Quiet c (f c)) → R s (s.onCage j f)
  append0 : ∀ s p b, 0 < s.poolFree → R s (s.onJournal k (·.append p b))
  charge0 : ∀ s j x g, R s (s.setCharge j x g)
  dev0 : ∀ {s t}, SameCore s t → R s t
  countDevice0 : ∀ s i n, R s (s.countDevice i n)
  snapshotDevice0 : ∀ s, R s s.takeDeviceSnapshot
  fill0 : ∀ s j b, R s (s.fillCache j b)
  shrink0 : ∀ s p, R s { s with cache := s.cache.filter p }
  remark0 : ∀ s (f : Line → Line), (∀ l, (f l).owner = l.owner ∧ (f l).key = l.key) →
    R s { s with cache := s.cache.map f }
  requeue0 : ∀ s q, (queueShape q).Sublist (queueShape s.queue) → R s { s with queue := q }
  join0 : ∀ s e, R s { s with queue := joinQueue s.queue e }
  profile0 : ∀ s p f, (∀ x : Profile, (f x).lane.lit = x.lane.lit ∧ (f x).lane.dark = x.lane.dark) →
    R s (s.onProfile p f)
  threshold0 : ∀ s p b v, R s (s.writeThreshold p b v)
  setting0 : ∀ s o v, R s { s with settings := s.settings.write o v }
  budget0 : ∀ (s : State) (v : Byte),
    R s { s with
          settings :=
            { s.settings with
              budget := clampTo 0 4095 (wordOf s.settings.budgetHeld v)
              budgetHeld := hiByte (clampTo 0 4095 (wordOf s.settings.budgetHeld v)) } }

namespace Closed

variable {k j : CageId} {R : State → State → Prop} {z s : State} {g : GroupId}

theorem dev (h : Closed k R) {t : State} (r : R z s) (e : SameCore s t) : R z t := h.trans r (h.dev0 e)

theorem own (h : Closed k R) {f : Cage → Cage} (r : R z s) (m : ∀ c, Moves c (f c)) : R z (s.onCage k f) :=
  h.trans r (h.own0 s f m)

theorem quiet (h : Closed k R) {f : Cage → Cage} (r : R z s) (m : ∀ c, Quiet c (f c)) :
    R z (s.onCage j f) := h.trans r (h.quiet0 s j f m)

theorem setCharge (h : Closed k R) {x : Nat} {b : Bool} (r : R z s) : R z (s.setCharge j x b) :=
  h.trans r (h.charge0 ..)

theorem countDevice (h : Closed k R) {i : DeviceCounter} {n : Nat} (r : R z s) : R z (s.countDevice i n) :=
  h.trans r (h.countDevice0 ..)

theorem takeDeviceSnapshot (h : Closed k R) (r : R z s) : R z s.takeDeviceSnapshot :=
  h.trans r (h.snapshotDevice0 s)

theorem fillCache (h : Closed k R) {b : List CacheByte} (r : R z s) : R z (s.fillCache j b) :=
  h.trans r (h.fill0 ..)

theorem ite (_ : Closed k R) {t u : State} {p : Prop} [Decidable p] (a : R s t) (b : R s u) :
    R s (if p then t else u) := by
  split <;> assumption

/-- An update of the own cage that keeps the charge, the counters and the journal's length. -/
theorem keep (h : Closed k R) {f : Cage → Cage} (r : R z s)
    (e : ∀ c, (f c).events.counters = c.events.counters) (q : ∀ c, (f c).ledger.charge = c.ledger.charge)
    (l : ∀ c, (f c).journal.list.length ≤ c.journal.list.length) :
    R z (s.onCage k f) := h.own r fun c => .keep (e c) (q c) (l c)

theorem latch (h : Closed k R) {f : CageFlag} (r : R z s) : R z (s.latch j f) :=
  h.quiet r fun _ => ⟨rfl, rfl, rfl, rfl, rfl, rfl, rfl, rfl, rfl, rfl, rfl, rfl, rfl, rfl, rfl⟩

theorem count (h : Closed k R) {i : CageCounter} (r : R z s) : R z (s.count k i) :=
  h.own r fun c => .count c i 1

theorem onGroup (h : Closed k R) {f : Group → Group} (r : R z s) : R z (s.onGroup g f) :=
  h.dev r ⟨rfl, rfl, rfl, rfl, rfl, rfl, rfl, rfl⟩

theorem latchDevice (h : Closed k R) {f : DeviceFlag} (r : R z s) : R z (s.latchDevice f) :=
  h.dev r ⟨rfl, rfl, rfl, rfl, rfl, rfl, rfl, rfl⟩

theorem onSeq (h : Closed k R) {f : Sequencer → Sequencer} (r : R z s) : R z (s.onSeq k f) :=
  h.keep r (fun _ => rfl) (fun _ => rfl) fun _ => le_rfl

theorem onOps (h : Closed k R) {f : Operations → Operations} (r : R z s) : R z (s.onOps k f) :=
  h.keep r (fun _ => rfl) (fun _ => rfl) fun _ => le_rfl

theorem opsAny (h : Closed k R) {f : Operations → Operations} (r : R z s) : R z (s.onOps j f) :=
  h.quiet r fun _ => ⟨rfl, rfl, rfl, rfl, rfl, rfl, rfl, rfl, rfl, rfl, rfl, rfl, rfl, rfl, rfl⟩

theorem onCtx (h : Closed k R) {f : Context → Context} (r : R z s) : R z (s.onCtx j f) :=
  h.quiet r fun _ => ⟨rfl, rfl, rfl, rfl, rfl, rfl, rfl, rfl, rfl, rfl, rfl, rfl, rfl, rfl, rfl⟩

theorem onJournal (h : Closed k R) {f : Journal → Journal} (r : R z s)
    (l : ∀ x : Journal, (f x).list.length ≤ x.list.length) : R z (s.onJournal k f) :=
  h.keep r (fun _ => rfl) (fun _ => rfl) fun c => l c.journal

theorem onLight (h : Closed k R) {f : LightMonitor → LightMonitor} (r : R z s) : R z (s.onLight k f) :=
  h.keep r (fun _ => rfl) (fun _ => rfl) fun _ => le_rfl

theorem onQual (h : Closed k R) {f : Qualifier → Qualifier} (r : R z s) : R z (s.onQual k f) :=
  h.keep r (fun _ => rfl) (fun _ => rfl) fun _ => le_rfl

/-! ## The bus (chapter 2) -/

theorem setBelief (h : Closed k R) {b : Option Belief} (r : R z s) : R z (s.setBelief j b) := h.onCtx r

theorem forgetBelief (h : Closed k R) (r : R z s) : R z (s.forgetBelief j) := h.onCtx r

theorem arm (h : Closed k R) (r : R z s) : R z (s.arm g) := h.onGroup r

theorem disarm (h : Closed k R) (r : R z s) : R z (s.disarm g) := h.onGroup r

theorem select (h : Closed k R) {c : Option CageId} (r : R z s) : R z (s.select g c) := h.onGroup r

theorem answer (h : Closed k R) {a : UpAnswer} (r : R z s) : R z (s.answer g a) := h.onGroup r

theorem onTransfer (h : Closed k R) {f : Transfer → Transfer} (r : R z s) : R z (s.onTransfer g f) :=
  h.onGroup r

theorem setTransaction (h : Closed k R) {t : Option Transaction} (r : R z s) :
    R z (s.setTransaction g t) := h.onGroup r

theorem setHold (h : Closed k R) {x : Hold} (r : R z s) : R z (s.setHold g x) := h.onTransfer r

theorem setBurst (h : Closed k R) {b : Burst} (r : R z s) : R z (s.setBurst g b) := h.onGroup r

theorem setLastAck (h : Closed k R) {a : Bool} (r : R z s) : R z (s.setLastAck g a) := h.onGroup r

theorem startForward (h : Closed k R) (r : R z s) : R z (s.startForward g) := by
  unfold State.startForward
  dsimp only
  split
  · exact r
  · split
    · split <;> exact h.setHold (h.arm (h.select r))
    · exact h.setHold (h.arm (h.select r))

theorem startRestore (h : Closed k R) {b : Burst} {x : Bool} (r : R z s) : R z (s.startRestore g b x) :=
  h.arm (h.select (h.setBurst r))

theorem startData (h : Closed k R) {b : Burst} (r : R z s) : R z (s.startData g b) := h.arm (h.setBurst r)

theorem stopBurst (h : Closed k R) {b : Burst} (r : R z s) : R z (s.stopBurst g b) :=
  h.disarm (h.select (h.setBurst r))

theorem phaseDone (h : Closed k R) {b : Burst} (r : R z s) : R z (s.phaseDone g b) := by
  unfold State.phaseDone
  dsimp only
  split
  · exact h.startData (h.setBelief r)
  · exact h.startRestore (h.setBelief r)
  · exact h.ite (h.startRestore (h.setBelief r)) (h.stopBurst (h.setBelief r))
  · exact r

theorem burstNack (h : Closed k R) {b : Burst} {d : DownByte} (r : R z s) : R z (s.burstNack g b d) := by
  unfold State.burstNack
  dsimp only
  split
  · exact h.startRestore (h.setBelief r)
  · exact h.startRestore (h.setBelief r)
  · exact h.stopBurst (h.forgetBelief (h.setBelief r))
  · exact r

theorem beginBurst (h : Closed k R) {a : Agent} {q : Request} (r : R z s) :
    R z (s.beginBurst g j a q) := by
  unfold State.beginBurst
  dsimp only
  have e {f : Group → Group} :
      R z (((s.onCage j fun c => { c with slot := .running }).onGroup g f).select g (some j)) :=
    h.select (h.onGroup (h.quiet r fun _ =>
      ⟨rfl, rfl, rfl, rfl, rfl, rfl, rfl, rfl, rfl, rfl, rfl, rfl, rfl, rfl, rfl⟩))
  exact h.ite (h.startData e) (h.arm (h.setBurst e))

theorem arbitrate (h : Closed k R) (r : R z s) : R z (s.arbitrate g) := by
  unfold State.arbitrate
  refine h.ite ?_ r
  split
  · exact h.startForward (h.onGroup r)
  · split
    · exact h.beginBurst r
    · exact r

theorem freeBus (h : Closed k R) (r : R z s) : R z (s.freeBus g) := h.arbitrate (h.onGroup r)

theorem returnBus (h : Closed k R) (r : R z s) : R z (s.returnBus g) := by
  unfold State.returnBus
  split
  · exact h.ite (h.onGroup r) (h.freeBus r)
  · exact r

theorem raise (h : Closed k R) {a : Agent} {q : Request} (r : R z s) : R z (s.raise j a q) :=
  h.arbitrate (h.quiet r fun c => Quiet.slots c c.slot _)

theorem withdraw (h : Closed k R) {a : Agent} (r : R z s) : R z (s.withdraw j a) :=
  h.arbitrate (h.onGroup (h.quiet r fun c => c.withdrawAgent_quiet a))

theorem closeBurst (h : Closed k R) (r : R z s) : R z (s.closeBurst j) :=
  h.freeBus (h.quiet r fun c => Quiet.slots c .empty _)

theorem abortBurst (h : Closed k R) (r : R z s) : R z (s.abortBurst j) := by
  unfold State.abortBurst
  split
  · exact r
  · exact h.ite (h.setBurst (h.forgetBelief r)) (h.closeBurst (h.forgetBelief r))

theorem finishAbort (h : Closed k R) {b : Burst} (r : R z s) : R z (s.finishAbort g b) :=
  h.closeBurst (h.ite (h.setLastAck r) r)

theorem burstAnswer (h : Closed k R) {b : Burst} {a : Bool} {v : Byte} (r : R z s) :
    R z (s.burstAnswer g b a v) := by
  unfold State.burstAnswer
  dsimp only
  refine h.ite (h.finishAbort r) ?_
  split
  · exact r
  · have e {p : Prop} [Decidable p] {x : Option Belief} {y : Bool} :
        R z (if p then (s.setBelief b.cage x).setLastAck g y else s.setBelief b.cage x) :=
      h.ite (h.setLastAck (h.setBelief r)) (h.setBelief r)
    exact h.ite (h.ite (h.phaseDone e) (h.arm (h.setBurst e))) (h.burstNack r)

theorem burstStall (h : Closed k R) {b : Burst} (r : R z s) : R z (s.burstStall g b) := by
  unfold State.burstStall
  dsimp only
  have e {f : Group → Group} : R z ((s.forgetBelief b.cage).onGroup g f) := h.onGroup (h.forgetBelief r)
  refine h.ite e ?_
  split
  · exact h.setBurst e
  · exact h.setBurst e
  · exact h.setBurst e
  · exact r

theorem losePage (h : Closed k R) (r : R z s) : R z (s.losePage j) := by
  unfold State.losePage
  dsimp only
  have e {f : Group → Group} : R z ((s.forgetBelief j).onGroup (groupOf j) f) :=
    h.onGroup (h.forgetBelief r)
  split
  · split
    · exact h.ite (h.setHold e) e
    · exact e
  · exact e

theorem changeSelects (h : Closed k R) (r : R z s) : R z (s.changeSelects j) := h.onGroup (h.losePage r)

/-! ## The tracker's paths (chapter 1) -/

theorem concludeDown (h : Closed k R) (r : R z s) : R z (s.concludeDown g j) := by
  unfold State.concludeDown
  split
  · exact h.onTransfer (h.onCtx r)
  · exact r

theorem endDown (h : Closed k R) (r : R z s) : R z (s.endDown g j) := h.select (h.concludeDown r)

theorem afterSelect (h : Closed k R) {x : Transfer} (r : R z s) : R z (s.afterSelect g j x) :=
  h.onTransfer (h.ite (h.endDown r) r)

theorem requestBus (h : Closed k R) (r : R z s) : R z (s.requestBus g j) := by
  unfold State.requestBus
  split
  · exact h.startForward (h.onGroup r)
  · exact h.ite (h.setHold r) (h.startForward r)
  · exact h.setHold (h.onGroup r)
  · exact h.setHold (h.onGroup r)

theorem stopWaiting (h : Closed k R) (r : R z s) : R z (s.stopWaiting g) := h.onGroup r

theorem answerOn (h : Closed k R) {p : Path} (r : R z s) : R z (s.answerOn g p) :=
  h.answer (h.onTransfer r)

theorem cutNow (h : Closed k R) {x : Transfer} {p : Path} (r : R z s) : R z (s.cutNow g j x p) := by
  unfold State.cutNow
  dsimp only
  have e : R z (if x.relay = .live then s.endDown g j else s) := h.ite (h.endDown r) r
  exact h.returnBus (h.onTransfer (h.ite (h.setLastAck e) e))

theorem cutOwner (h : Closed k R) (r : R z s) : R z (s.cutOwner g j) := by
  unfold State.cutOwner
  split
  · exact h.returnBus r
  · dsimp only
    split
    · exact h.ite (h.cutNow r) (h.returnBus r)
    · exact h.returnBus (h.answerOn r)
    · exact h.returnBus (h.answerOn r)
    all_goals exact h.onTransfer r

theorem answerWaiting (h : Closed k R) (r : R z s) : R z (s.answerWaiting g j) := by
  unfold State.answerWaiting
  split
  · refine h.ite ?_ r
    split
    · exact h.answerOn (h.stopWaiting r)
    · exact h.stopWaiting r
  · exact r

theorem leaveService (h : Closed k R) (r : R z s) : R z (s.leaveService j) := by
  unfold State.leaveService
  dsimp only
  have e : R z (s.answerWaiting (groupOf j) j) := h.answerWaiting r
  split
  · exact h.ite (h.cutOwner e) e
  · exact e

theorem dropReads (h : Closed k R) (r : R z s) : R z (s.dropReads j) := by
  unfold State.dropReads
  split
  · exact h.ite (h.onTransfer r) r
  · exact r

theorem unstall (h : Closed k R) (r : R z s) : R z (s.unstall j) := by
  unfold State.unstall
  dsimp only
  split
  · exact h.ite (h.ite (h.freeBus (h.onGroup r)) (h.select (h.onGroup r))) r
  · exact h.ite (h.onGroup r) r
  · exact r

/-! ## The Light Monitor (chapter 10) -/

theorem setDim (h : Closed k R) {b : Bool} (r : R z s) : R z (s.setDim k b) :=
  h.ite r (h.latch (h.onSeq r))

theorem endSample (h : Closed k R) (r : R z s) : R z (s.endSample k) := h.onLight r

theorem raiseSample (h : Closed k R) (r : R z s) : R z (s.raiseSample k) := by
  unfold State.raiseSample
  dsimp only
  split
  · exact h.ite (h.endSample r) (h.raise (h.onLight r))
  · exact h.endSample r

theorem endLight (h : Closed k R) (r : R z s) : R z (s.endLight k) := h.withdraw (h.onLight r)

theorem beginVerify (h : Closed k R) (r : R z s) : R z (s.beginVerify k) := h.raiseSample (h.onLight r)

theorem beginMonitor (h : Closed k R) {b : Bool} (r : R z s) : R z (s.beginMonitor k b) := h.onLight r


end Closed

theorem Cage.countDark_moves (c : Cage) (a b : Vector Lane 8) : Moves c (c.countDark a b) := by
  unfold Cage.countDark
  generalize List.finRange 8 = l
  induction l generalizing c with
  | nil => exact .refl c
  | cons n l ih =>
    rw [List.foldl_cons]
    refine .trans ?_ (ih _)
    split
    · exact .count ..
    · exact .refl c

theorem Cage.endRecovery_moves (c : Cage) : Moves c c.endRecovery := by
  unfold Cage.endRecovery
  split
  · exact .refl c
  · exact .keep rfl rfl le_rfl

theorem Cage.latch_moves (c : Cage) (f : CageFlag) : Moves c (c.latch f) := .keep rfl rfl le_rfl

theorem Cage.count_moves (c : Cage) (i : CageCounter) : Moves c (c.count i) := .count c i 1

theorem Journal.setMark_length (x : Journal) (i : Nat) (m : Mark) :
    (x.setMark i m).list.length = x.list.length := List.length_modify ..

theorem Journal.finish_length (x : Journal) (i : Nat) : (x.finish i).list.length = x.list.length := by
  have e (p : Prop) [Decidable p] : (if p then x else x.setMark i .applied).list.length = x.list.length := by
    split
    · rfl
    · exact x.setMark_length ..
  exact e _

theorem Journal.markAllPending_length (x : Journal) : x.markAllPending.list.length = x.list.length :=
  List.length_map ..

theorem Cage.finish_moves (c : Cage) (i : Nat) :
    Moves c ({ c with journal := c.journal.finish i }.count .recordsReplayed) :=
  .trans (d := { c with journal := c.journal.finish i })
    (.keep rfl rfl (Journal.finish_length ..).le) (.count ..)

namespace Closed

variable {k j : CageId} {R : State → State → Prop} {z s : State} {g : GroupId}

theorem reportLanes (h : Closed k R) {a b : Vector Lane 8} (r : R z s) : R z (s.reportLanes k a b) := by
  unfold State.reportLanes
  dsimp only
  have e : R z (if (List.finRange 8).any (fun n => a[n].lit != b[n].lit) then
      (s.onCage k (·.countDark a b)).latch k .light else s) :=
    h.ite (h.latch (h.own r fun c => c.countDark_moves a b)) r
  exact h.ite (h.setDim e) (h.ite (h.setDim e) e)

/-! ## The Cage Sequencer (chapter 7) -/

theorem endOps (h : Closed k R) (r : R z s) : R z (s.endOps k) :=
  h.withdraw (h.keep r (fun _ => rfl) (fun _ => rfl) fun _ => le_rfl)

theorem revealAny (h : Closed k R) (r : R z s) : R z (s.reveal j) :=
  h.ite (h.latch (h.quiet r fun _ =>
    ⟨rfl, rfl, rfl, rfl, rfl, rfl, rfl, rfl, rfl, rfl, rfl, rfl, rfl, rfl, rfl⟩)) r

theorem enterHeld (h : Closed k R) {x : HoldReason} (r : R z s) : R z (s.enterHeld k x) := by
  unfold State.enterHeld
  dsimp only
  refine h.own (h.revealAny (h.own (h.endLight (h.endOps r)) fun c => ?_)) fun c => ?_
  · exact .trans c.endRecovery_moves (.keep rfl rfl le_rfl)
  · exact .trans (c.latch_moves .held) (.count ..)

theorem startRecovery (h : Closed k R) {x : RecoveryKind} (r : R z s) : R z (s.startRecovery k x) := by
  unfold State.startRecovery
  exact h.keep (h.setDim r) (fun _ => rfl) (fun _ => rfl) fun _ => le_rfl

theorem raisePoll (h : Closed k R) (r : R z s) : R z (s.raisePoll j) :=
  h.ite (h.raise (h.opsAny r)) (h.opsAny r)

theorem endPolling (h : Closed k R) (r : R z s) : R z (s.endPolling k) := h.withdraw (h.onOps r)

theorem startPollTimer (h : Closed k R) (r : R z s) : R z (s.startPollTimer k) := h.onOps r

theorem waitAny (h : Closed k R) {w : Option (WaitKind × Timer)} (r : R z s) :
    R z (s.onSeq j fun q => { q with waitTimer := w }) :=
  h.quiet r fun _ => ⟨rfl, rfl, rfl, rfl, rfl, rfl, rfl, rfl, rfl, rfl, rfl, rfl, rfl, rfl, rfl⟩

theorem beginWait (h : Closed k R) {a b : WaitKind} {n : Nat} (r : R z s) : R z (s.beginWait j a b n) := by
  unfold State.beginWait
  exact h.ite (h.raisePoll (h.waitAny r)) (h.waitAny r)

theorem beginBootWait (h : Closed k R) (r : R z s) : R z (s.beginBootWait k) := h.ite (h.beginWait r) r

theorem enterBooting (h : Closed k R) (r : R z s) : R z (s.enterBooting k) := h.beginBootWait (h.onSeq r)

/-- A grant of a scan takes any cage to RAMPING. -/
theorem enterRamping (h : Closed k R) (r : R z s) : R z (s.enterRamping j) :=
  h.beginWait (h.quiet r fun _ =>
    ⟨rfl, rfl, rfl, rfl, rfl, rfl, rfl, rfl, rfl, rfl, rfl, rfl, rfl, rfl, rfl⟩)

theorem endWait (h : Closed k R) (r : R z s) : R z (s.endWait k) := h.endPolling (h.onSeq r)

/-! ## Power admission (chapter 9) -/

theorem compute (h : Closed k R) (r : R z s) : R z (s.compute k) :=
  h.keep r (fun _ => rfl) (fun _ => rfl) fun _ => le_rfl

theorem judgeOver (h : Closed k R) {o : State} (r : R z s) : R z (s.judgeOver o) :=
  h.ite r (h.latchDevice r)

theorem leaveQueue (h : Closed k R) (r : R z s) : R z (s.leaveQueue j) :=
  h.trans r (h.requeue0 s _ (List.filter_sublist.map _))

end Closed

theorem queueShape_pass (q : List QueueEntry) : queueShape (q.map (·.pass)) = queueShape q := by
  simp [queueShape, QueueEntry.pass]

/-- What a walk leaves: the queue it answers keeps entries it was given, in their order, and the state it reaches differs
from its start by grants. -/
theorem Closed.walk {k : CageId} {R : State → State → Prop} (h : Closed k R) {z : State} (x : Scan)
    (es : List QueueEntry) (r : R z x.state) (q : x.state.queue = z.queue) :
    R z (x.walk es).1.state ∧ (x.walk es).1.state.queue = z.queue ∧
      (queueShape (x.walk es).2).Sublist (queueShape (x.skipped ++ es)) := by
  induction es generalizing x with
  | nil => exact ⟨r, q, by simp [Scan.walk]⟩
  | cons e es ih =>
    unfold Scan.walk
    split
    · obtain ⟨a, b, c⟩ := ih (x.grant e.cage) (h.countDevice (h.countDevice (h.setCharge r))) (by
        rw [← q]; unfold Scan.grant State.setCharge State.judgeOver; dsimp only; split <;> rfl)
      refine ⟨a, b, c.trans ?_⟩
      have : queueShape ((x.grant e.cage).skipped ++ es) = queueShape (x.skipped ++ es) := by
        simp only [queueShape, List.map_append, Scan.grant]
        exact congrArg (· ++ _) (queueShape_pass x.skipped)
      rw [this]
      exact (List.Sublist.append_left (List.sublist_cons_self e es) x.skipped).map _
    · split
      · obtain ⟨a, b, c⟩ := ih { x with skipped := x.skipped ++ [e] } r q
        exact ⟨a, b, by simpa using c⟩
      · exact ⟨r, q, .refl _⟩

namespace Closed

variable {k j : CageId} {R : State → State → Prop} {z s : State} {g : GroupId}

theorem scanOnce (h : Closed k R) (s : State) : R s s.scanOnce.1 := by
  obtain ⟨a, b, c⟩ := h.walk { state := s, skipped := [], granted := [], lowered := false } s.queue
    (h.refl s) rfl
  exact h.trans a (h.requeue0 _ _ (by rw [b]; exact c))

theorem scanRepeat (h : Closed k R) (n : Nat) (s : State) : R s (State.scanRepeat n s).1 := by
  induction n generalizing s with
  | zero => exact h.refl s
  | succ n ih =>
    have e := h.scanOnce s
    unfold State.scanRepeat
    split <;> rename_i heq <;> rw [heq] at e
    · exact h.trans e (ih _)
    · exact e

theorem foldCages (_ : Closed k R) {f : State → CageId → State}
    (e : ∀ {t : State} {i : CageId}, R z t → R z (f t i)) (l : List CageId) (r : R z s) :
    R z (l.foldl f s) := by
  induction l generalizing s with
  | nil => exact r
  | cons i l ih => exact ih (e r)

theorem scan (h : Closed k R) (r : R z s) : R z s.scan :=
  h.foldCages h.enterRamping _ (h.trans r (h.scanRepeat _ s))

theorem joinAndScan (h : Closed k R) (r : R z s) : R z (s.joinAndScan k) := by
  unfold State.joinAndScan
  dsimp only
  have e := h.scan (h.trans (h.onSeq r (f := fun q => { q with state := .admitting })) (h.join0 _
    { cage := k, priority := (s.cage k).settings.priority, passed := 0 }))
  exact h.ite (h.latch e) e

theorem chargeAtOnce (h : Closed k R) {x : Nat} (r : R z s) : R z (s.chargeAtOnce j x) :=
  h.ite (h.scan (h.setCharge r)) (h.setCharge r)

theorem returnCharge (h : Closed k R) (r : R z s) : R z (s.returnCharge k) :=
  h.keep (h.setCharge (h.leaveQueue r)) (fun _ => rfl) (fun _ => rfl) fun _ => le_rfl

/-! ## Replay (chapter 8) -/

theorem onCursor (h : Closed k R) {f : Cursor → Cursor} (r : R z s) : R z (s.onCursor k f) := h.onOps r

theorem raiseRun (h : Closed k R) (r : R z s) : R z (s.raiseRun k) := by
  unfold State.raiseRun
  dsimp only
  split
  · exact h.raise (h.onCursor r)
  · exact r

theorem beginRun (h : Closed k R) (r : R z s) : R z (s.beginRun k) := by
  unfold State.beginRun
  dsimp only
  split
  · exact h.raiseRun (h.onCursor r)
  · exact r

theorem raiseReadBack (h : Closed k R) (r : R z s) : R z (s.raiseReadBack k) := by
  unfold State.raiseReadBack
  split
  · exact h.raise (h.onCursor r)
  · exact r

theorem startRecord (h : Closed k R) {i : Nat} {u : List Run} (r : R z s) : R z (s.startRecord k i u) :=
  h.beginRun (h.onCursor (h.onJournal r fun _ => le_rfl))

theorem finishEmpty (h : Closed k R) {i : Nat} (r : R z s) : R z (s.finishEmpty k i) :=
  h.own r fun c => c.finish_moves i

theorem walkRecords (h : Closed k R) (l : List Nat) (r : R z s) : R z (s.walkRecords k l).1 := by
  induction l generalizing s with
  | nil => exact r
  | cons i l ih =>
    unfold State.walkRecords
    split
    · exact r
    · split
      · split
        · exact ih (h.finishEmpty r)
        · exact h.startRecord r
      · exact ih r

theorem enterVerifying (h : Closed k R) (r : R z s) : R z (s.enterVerifying k) := h.beginVerify (h.onSeq r)

theorem finishReplay (h : Closed k R) (r : R z s) : R z (s.finishReplay k) :=
  h.ite (h.enterVerifying (h.onCursor r)) (h.onSeq (h.onCursor r))

theorem beginPass (h : Closed k R) (r : R z s) : R z (s.beginPass k) := h.onCursor r

theorem runPass (h : Closed k R) (r : R z s) : R z (s.runPass k) := by
  have e := h.walkRecords (((s.beginPass k).cage k).positionsFrom 0) (h.beginPass r)
  unfold State.runPass
  dsimp only
  split <;> rename_i heq <;> rw [heq] at e
  · exact e
  · exact h.finishReplay e

theorem goOn (h : Closed k R) {i : Nat} (r : R z s) : R z (s.goOn k i) := by
  have e := h.walkRecords ((s.cage k).positionsFrom i) r
  unfold State.goOn
  split <;> rename_i heq <;> rw [heq] at e
  · exact e
  · exact h.ite (h.runPass e) (h.finishReplay e)

theorem startReplay (h : Closed k R) {b : Bool} (r : R z s) : R z (s.startReplay k b) := by
  unfold State.startReplay
  dsimp only
  have e := h.onCursor r (f := fun _ => { Cursor.reset with resumed := b })
  exact h.ite (h.finishReplay e) (h.ite (h.goOn (h.beginPass e)) (h.ite (h.enterHeld e)
    (h.goOn (h.beginPass (h.onJournal e fun x => x.markAllPending_length.le)))))

theorem enterReplaying (h : Closed k R) {b : Bool} (r : R z s) : R z (s.enterReplaying k b) :=
  h.startReplay (h.onSeq r)

theorem settleOver (h : Closed k R) (r : R z s) : R z (s.settleOver k) := by
  unfold State.settleOver
  split
  · exact h.goOn (h.onCursor r)
  · exact r

theorem finishRecord (h : Closed k R) (r : R z s) : R z (s.finishRecord k) := by
  unfold State.finishRecord
  split
  · exact r
  · dsimp only
    have e {i : Nat} {f : Cursor → Cursor} := h.onCursor (f := f) (h.own r fun c => c.finish_moves i)
    exact h.ite (h.settleOver e) e

theorem runDone (h : Closed k R) (r : R z s) : R z (s.runDone k) :=
  h.ite (h.finishRecord (h.onCursor r)) (h.beginRun (h.onCursor r))

theorem replayFailed (h : Closed k R) (r : R z s) : R z (s.replayFailed k) :=
  h.ite (h.onOps r) (h.enterHeld r)

theorem replayComplete (h : Closed k R) {l : List Byte} (r : R z s) : R z (s.replayComplete k l) := by
  unfold State.replayComplete
  dsimp only
  have e := h.onCursor r (f := fun x => { x with failures := 0 })
  split
  · exact h.ite (h.raiseReadBack e) (h.runDone e)
  · refine h.ite (h.runDone e) (h.ite (h.raiseRun (h.onCursor e)) (h.enterHeld ?_))
    split
    · exact h.onJournal e fun x => (x.setMark_length ..).le
    · exact e
  · exact e
  · exact e

theorem replayReport (h : Closed k R) {x : Report} (r : R z s) : R z (s.replayReport k x) := by
  unfold State.replayReport
  split
  · exact h.replayComplete r
  · exact h.replayFailed r
  · exact h.replayFailed r
  · exact r

theorem replayRetry (h : Closed k R) (r : R z s) : R z (s.replayRetry k) := by
  unfold State.replayRetry
  split
  · exact h.raiseRun r
  · exact h.raiseReadBack r
  · exact r
  · exact r

/-! ## The cache (chapter 5) -/

theorem freeLines (h : Closed k R) (r : R z s) : R z (s.freeLines j) := h.trans r (h.shrink0 ..)

theorem reviveLines (h : Closed k R) (r : R z s) : R z (s.reviveLines j) :=
  h.trans r (h.remark0 s _ fun l => by split <;> exact ⟨rfl, rfl⟩)

theorem ageLines (h : Closed k R) (r : R z s) : R z (s.ageLines j) := by
  unfold State.ageLines
  split
  · exact h.trans r (h.remark0 s _ fun l => by split <;> exact ⟨rfl, rfl⟩)
  · exact h.freeLines r

theorem adoptLines (h : Closed k R) (r : R z s) : R z (s.adoptLines j) := h.trans r (h.shrink0 ..)

theorem setStanding (h : Closed k R) {x : Standing} (r : R z s) : R z (s.setStanding k x) :=
  h.keep r (fun _ => rfl) (fun _ => rfl) fun _ => le_rfl

/-! ## Identification (chapter 8) -/

theorem goOnToPower (h : Closed k R) {b : Bool} (r : R z s) : R z (s.goOnToPower k b) :=
  h.ite (h.ite (h.enterReplaying r) (h.enterRamping r))
    (h.ite (h.enterReplaying (h.chargeAtOnce (h.compute r)))
      (h.ite (h.enterHeld (h.compute r)) (h.joinAndScan (h.compute r))))

theorem reachOutcome (h : Closed k R) {x : Identification} {o : IdOutcome} (r : R z s) :
    R z (s.reachOutcome k x o) := by
  unfold State.reachOutcome
  dsimp only
  have e {f : Cage → Cage} (m : ∀ c, Moves c (f c)) {p q : Prop} [Decidable p] [Decidable q] :
      R z (if p then ((if q then (s.onCage k f).reviveLines k else (s.onCage k f).freeLines k).fillCache k
        x.held).reveal k else (if q then (s.onCage k f).reviveLines k else
        (s.onCage k f).freeLines k).fillCache k x.held) :=
    have a := h.own r m
    have b := h.fillCache (h.ite (h.reviveLines a) (h.freeLines a))
    h.ite (h.revealAny b) b
  have m : ∀ c : Cage, Moves c
      { c with
        seq :=
          { c.seq with
            outcome := o
            identified := true
            baseline := if o.captures (s.profileOf k).kin then some x.got else c.seq.baseline }
        ops := { c.ops with identification := none }
        journal := if o.freezes (s.profileOf k).kin then { c.journal with frozen := true } else c.journal
        standing := o.standing (s.profileOf k).kin } := fun c =>
    .keep rfl rfl (by dsimp only; split <;> exact le_rfl)
  split
  · exact h.goOnToPower (e m)
  · exact h.enterHeld (e m)
  · exact h.enterHeld (e m)

theorem nextRead (h : Closed k R) {x : Identification} (r : R z s) : R z (s.nextRead k x) := by
  unfold State.nextRead
  split
  · exact h.reachOutcome r
  · exact h.raise (h.onOps r)

theorem enterIdentifying (h : Closed k R) (r : R z s) : R z (s.enterIdentifying k) := h.nextRead (h.onSeq r)

theorem keepRead (h : Closed k R) {x : Identification} {d : IdRead} {l : List Byte} (r : R z s) :
    R z (s.keepRead k x d l).1 := by
  unfold State.keepRead
  split <;> dsimp only
  · exact r
  · exact h.onSeq r
  · exact r

theorem readFailed (h : Closed k R) {x : Identification} {d : IdRead} (r : R z s) :
    R z (s.readFailed k x d) := by
  unfold State.readFailed
  refine h.ite (h.onOps r) ?_
  split
  · exact h.nextRead r
  · exact h.reachOutcome r
  · exact h.reachOutcome r

theorem idReport (h : Closed k R) {x : Identification} {p : Report} (r : R z s) :
    R z (s.idReport k x p) := by
  unfold State.idReport
  split
  · exact r
  · dsimp only
    split
    · exact h.nextRead (h.keepRead r)
    · exact h.readFailed r
    · exact h.readFailed r
    · exact r

/-! ## Service (chapters 7 and 8) -/

theorem departService (h : Closed k R) {x : RecoveryKind} (r : R z s) : R z (s.departService k x) :=
  h.onSeq (h.startRecovery (h.endLight (h.endOps r)))

theorem recoverFromService (h : Closed k R) {x : RecoveryKind} (r : R z s) :
    R z (s.recoverFromService k x) := h.leaveService (h.beginBootWait (h.departService r))

theorem silentRecovery (h : Closed k R) (r : R z s) : R z (s.silentRecovery k) := h.recoverFromService r

theorem resetWrite (h : Closed k R) (r : R z s) : R z (s.resetWrite k) := h.ite (h.recoverFromService r) r

theorem restart (h : Closed k R) (r : R z s) : R z (s.restart k) :=
  h.ite (h.scan (h.enterBooting (h.leaveQueue (h.endLight (h.endOps r)))))
    (h.enterBooting (h.endLight (h.endOps r)))

theorem mrstAsserted (h : Closed k R) (r : R z s) : R z (s.mrstAsserted k) := by
  unfold State.mrstAsserted
  dsimp only
  have e : R z (s.losePage k) := h.losePage r
  split
  · exact h.recoverFromService e
  · exact h.recoverFromService e
  · exact h.endWait e
  iterate 5 exact h.restart e
  · exact e
  · exact e

theorem mrstReleased (h : Closed k R) (r : R z s) : R z (s.mrstReleased k) := h.beginBootWait r

theorem askPulse (h : Closed k R) (r : R z s) : R z (s.askPulse k) :=
  h.ite (h.mrstAsserted (h.keep r (fun _ => rfl) (fun _ => rfl) fun _ => le_rfl)) (h.beginBootWait r)

theorem startProbeTimer (h : Closed k R) (r : R z s) : R z (s.startProbeTimer k) := h.onSeq r

theorem completeCapture (h : Closed k R) {x : Capture} (r : R z s) : R z (s.completeCapture k x) := by
  unfold State.completeCapture
  dsimp only
  split
  · exact h.fillCache (h.setStanding (h.onOps (h.onSeq r)))
  · exact h.onOps (h.onSeq r)
  · exact h.onOps (h.onSeq r)

theorem failCapture (h : Closed k R) {x : Capture} (r : R z s) : R z (s.failCapture k x) := by
  unfold State.failCapture
  dsimp only
  split
  · exact h.setStanding (h.onOps (h.onSeq r))
  · exact h.onOps (h.onSeq r)
  · exact h.onOps (h.onSeq r)

theorem captureStep (h : Closed k R) {x : Capture} (r : R z s) : R z (s.captureStep k x).1 := by
  unfold State.captureStep
  dsimp only
  split
  · exact h.completeCapture r
  · split <;> dsimp only
    · exact h.onOps r
    · exact h.raise (h.onOps r)

theorem probeHeld (h : Closed k R) (r : R z s) : R z (s.probeHeld k) := by
  unfold State.probeHeld
  dsimp only
  have e := h.startProbeTimer (h.onOps r (f := fun o => { o with probe := none, retry := none }))
  split
  · exact h.captureStep e
  · exact e

theorem probeNone (h : Closed k R) {b : Bool} (r : R z s) : R z (s.probeNone k b) :=
  h.ite (h.silentRecovery r) (h.probeHeld r)

theorem startProbe (h : Closed k R) {b : Bool} (r : R z s) : R z (s.startProbe k b) := by
  unfold State.startProbe
  dsimp only
  have e {f : Operations → Operations} := h.onOps r (f := f)
  split
  · exact h.probeNone e
  · split
    · exact h.probeNone e
    · exact h.raise (h.onOps e)

theorem probeReport (h : Closed k R) {x : Probe} {p : Report} (r : R z s) : R z (s.probeReport k x p) := by
  unfold State.probeReport
  split
  · split
    · exact h.probeNone r
    · exact h.ite (h.probeHeld r) (h.silentRecovery r)
  · exact h.ite (h.onOps r) (h.silentRecovery r)
  · exact h.ite (h.onOps r) (h.silentRecovery r)
  · exact r

theorem afterCapture (h : Closed k R) (r : R z s) : R z (s.afterCapture k) := h.ite (h.startProbe r) r

theorem captureGo (h : Closed k R) {x : Capture} (r : R z s) : R z (s.captureGo k x) := by
  have e := h.captureStep (x := x) r
  unfold State.captureGo
  split <;> rename_i heq <;> rw [heq] at e
  · exact h.afterCapture e
  · exact e

theorem startCapture (h : Closed k R) {o : CaptureOrigin} (r : R z s) : R z (s.startCapture k o) :=
  h.captureGo (h.onSeq (h.ite (h.withdraw (h.onOps r)) r))

theorem captureReport (h : Closed k R) {x : Capture} {p : Report} (r : R z s) :
    R z (s.captureReport k x p) := by
  unfold State.captureReport
  split
  · exact r
  · dsimp only
    split
    · exact h.captureGo r
    · exact h.ite (h.onOps r) (h.afterCapture (h.failCapture r))
    · exact h.ite (h.onOps r) (h.afterCapture (h.failCapture r))
    · exact r

theorem beginServing (h : Closed k R) {b : Bool} (r : R z s) : R z (s.beginServing k b) :=
  h.beginMonitor (h.startProbeTimer (h.onSeq r))

theorem sampleAndCapture (h : Closed k R) {o : CaptureOrigin} (r : R z s) :
    R z (s.sampleAndCapture k o) := by
  unfold State.sampleAndCapture
  dsimp only
  have e : R z { s with ties := s.ties + 1 } := h.dev r ⟨rfl, rfl, rfl, rfl, rfl, rfl, rfl, rfl⟩
  exact h.ite (h.startCapture (h.raiseSample e)) (h.raiseSample (h.startCapture e))

theorem enterServing (h : Closed k R) (r : R z s) : R z (s.enterServing k) := by
  unfold State.enterServing
  dsimp only
  have e {a : Cage → Standing} {b : Cage → Journal}
      (n : ∀ c, (b c).list.length ≤
        ((c.endRecovery.latch .recovered).count .recoveries).journal.list.length) :
      R z (s.onCage k fun c =>
        { (c.endRecovery.latch .recovered).count .recoveries with
          seq := { ((c.endRecovery.latch .recovered).count .recoveries).seq with
            concealed := false, concealTimer := none }
          standing := a c
          journal := b c }) :=
    h.own r fun c => .trans c.endRecovery_moves (.trans (Cage.latch_moves _ .recovered)
      (.trans (Cage.count_moves _ .recoveries) (.keep rfl rfl (n c))))
  have n (p : Prop) [Decidable p] (x : Journal) :
      (if p then { x with frozen := false } else x).list.length ≤ x.list.length := by
    split <;> exact le_rfl
  exact h.ite (h.sampleAndCapture (h.beginServing (h.freeLines (e fun _ => n ..))))
    (h.raiseSample (h.beginServing (e fun _ => n ..)))

theorem serve (h : Closed k R) (r : R z s) : R z (s.serve k) :=
  h.ite (h.enterReplaying (h.onSeq r)) (h.enterServing (h.onSeq r))

end Closed

theorem Cage.countBurst_moves (c : Cage) (b : Burst) : Moves c (c.countBurst b) := by
  unfold Cage.countBurst
  have e (p : Prop) [Decidable p] (d : Cage) (i : CageCounter) (m : Moves c d) :
      Moves c (if p then d.count i else d) := by
    split
    · exact .trans m (.count ..)
    · exact m
  exact e _ _ _ (e _ _ _ (.refl c))

theorem Cage.acceptModule_moves (c : Cage) : Moves c c.acceptModule := by
  have e (x : Events) (m : x.counters = c.events.counters) :
      Moves c (({ c with qual := c.qual.settle, events := x }.count .insertions).latch .presence) :=
    .trans (.trans (d := { c with qual := c.qual.settle, events := x }) (.keep m rfl le_rfl)
      (Cage.count_moves _ .insertions)) (Cage.latch_moves _ .presence)
  exact e _ (by split <;> rfl)

theorem Cage.loseModule_moves (c : Cage) : Moves c c.loseModule :=
  .trans (.trans (d := { c with qual := c.qual.leave }) (.keep rfl rfl le_rfl)
    (Cage.count_moves _ .removals)) (Cage.latch_moves _ .presence)

theorem Cage.losePiece_moves (c : Cage) : Moves c c.losePiece := by
  unfold Cage.losePiece
  dsimp only
  split
  · exact c.count_moves .journalOverflows
  · exact .trans (c.count_moves .journalOverflows) (.keep rfl rfl le_rfl)

theorem Cage.bounce_moves (c : Cage) (b l : Nat) : Moves c (c.bounce b l) := by
  unfold Cage.bounce
  dsimp only
  have e : Moves c ({ c with qual := c.qual.bounce b l }.count .bounces) :=
    .trans (d := { c with qual := c.qual.bounce b l }) (.keep rfl rfl le_rfl) (Cage.count_moves _ .bounces)
  split
  · exact .trans e (Cage.latch_moves _ .unstable)
  · exact e

theorem Cage.writeOwn_moves (c : Cage) (o : Nat) (v : Byte) : Moves c (c.writeOwn o v) := by
  unfold Cage.writeOwn
  split <;> exact .keep rfl rfl le_rfl

theorem Journal.fold_length (x : Journal) (i : Nat) (p : Piece) (b : Bool) :
    (x.fold i p b).list.length = x.list.length := by
  unfold Journal.fold Journal.disturb
  split <;> exact List.length_modify ..

theorem Journal.emptied_length (x : Journal) : x.emptied.list.length ≤ x.list.length := Nat.zero_le _

/-- A header byte that is no threshold leaves both thresholds. -/
theorem Profile.writeHeader_thresholds (p : Profile) (o : Nat) (v : Byte) :
    (p.writeHeader o v).lane.lit = p.lane.lit ∧ (p.writeHeader o v).lane.dark = p.lane.dark := by
  unfold Profile.writeHeader
  split <;> exact ⟨rfl, rfl⟩

namespace Closed

variable {k j : CageId} {R : State → State → Prop} {z s : State} {g : GroupId}

/-! ## Reports and the end of a burst -/

theorem pollReady (h : Closed k R) (r : R z s) : R z (s.pollReady k) := by
  unfold State.pollReady
  dsimp only
  split
  · exact h.enterIdentifying (h.onOps (h.onSeq r))
  · exact h.enterReplaying (h.onOps (h.onSeq r))
  · exact h.onOps (h.onSeq r)

theorem pollReport (h : Closed k R) {x : Polling} {p : Report} (r : R z s) : R z (s.pollReport k x p) := by
  unfold State.pollReport
  dsimp only
  have e : R z (s.fillFromPoll k p) := h.ite (h.fillCache r) r
  split
  · exact h.ite (h.pollReady e) (h.startPollTimer e)
  · exact h.startPollTimer e

theorem testVerify (h : Closed k R) (r : R z s) : R z (s.testVerify k) :=
  h.ite (h.onSeq (h.endLight r)) (h.endSample r)

theorem sampleComplete (h : Closed k R) {x : Sample} {l : List Byte} (r : R z s) :
    R z (s.sampleComplete k x l) := by
  unfold State.sampleComplete
  dsimp only
  split
  · exact h.testVerify (h.onLight r)
  · exact h.endSample (h.reportLanes (h.onLight (h.onLight r)))
  · exact h.onLight r

theorem sampleFailed (h : Closed k R) (r : R z s) : R z (s.sampleFailed k) :=
  h.ite (h.ite (h.silentRecovery (h.onLight r)) (h.endSample (h.onLight r))) (h.endSample r)

theorem sampleReport (h : Closed k R) {x : Sample} {p : Report} (r : R z s) :
    R z (s.sampleReport k x p) := by
  unfold State.sampleReport
  dsimp only
  have e := h.fillCache (j := k) (b := p.cacheBytes (s.profileOf k)) r
  split
  · exact h.sampleComplete e
  · exact h.ite (h.onLight e) (h.sampleFailed e)
  · exact h.ite (h.onLight e) (h.sampleFailed e)
  · exact e

theorem deliver (h : Closed k R) {p : Report} (r : R z s) : R z (s.deliver k p) := by
  unfold State.deliver
  dsimp only
  split
  · split
    · exact h.pollReport r
    · exact r
  · split
    · exact h.idReport r
    · split
      · exact h.captureReport r
      · exact r
  · split
    · exact h.idReport r
    · exact r
  · exact h.replayReport r
  · exact h.replayReport r
  · split
    · exact h.probeReport r
    · exact r
  · split
    · exact h.sampleReport r
    · exact r

theorem afterDiscard (h : Closed k R) (r : R z s) : R z (s.afterDiscard k) := h.ite (h.startProbe r) r

theorem endBurst {b : Burst} (h : Closed b.cage R) (r : R z s) : R z (s.endBurst b) := by
  unfold State.endBurst
  dsimp only
  have e : R z (if b.spoiled then (s.onCage b.cage (·.countBurst b)).forgetBelief b.cage else
      s.onCage b.cage (·.countBurst b)) :=
    have a := h.own r fun c => c.countBurst_moves b
    h.ite (h.forgetBelief a) a
  exact h.closeBurst (h.ite (h.ite (h.afterDiscard e) e) (h.deliver e))

theorem sequencerRetry (h : Closed k R) (r : R z s) : R z (s.sequencerRetry k) := by
  unfold State.sequencerRetry
  dsimp only
  have e := h.onOps r (f := fun y => { y with retry := none })
  split
  · exact h.raise e
  · split
    · exact h.raise e
    · exact e
    · split
      · exact h.raise e
      · exact e
      · exact h.replayRetry e

theorem monitorRetry (h : Closed k R) {x : Sample} (r : R z s) : R z (s.monitorRetry k x) :=
  h.raise (h.onLight r)

/-! ## Presence (chapter 6) -/

theorem settleRecovery (h : Closed k R) (r : R z s) : R z (s.settleRecovery k) := by
  unfold State.settleRecovery
  dsimp only
  split
  · exact h.startRecovery r
  · exact h.onSeq r

theorem settleQualifies (h : Closed k R) (r : R z s) : R z (s.settleQualifies k) :=
  h.enterBooting (h.setCharge (h.onSeq (h.settleRecovery (h.own r fun c => c.acceptModule_moves))))

theorem replacePeriodic (h : Closed k R) (r : R z s) : R z (s.replacePeriodic k) := by
  unfold State.replacePeriodic
  dsimp only
  have e := h.withdraw (j := k) (a := .sequencer)
    (h.onOps r (f := fun o => { o with probe := none, retry := none }))
  exact h.ite (h.onOps e) (h.startProbe e)

theorem judgeGlitch (h : Closed k R) (r : R z s) : R z (s.judgeGlitch k) := by
  unfold State.judgeGlitch
  dsimp only
  split
  · exact r
  · exact r
  · refine h.ite (h.silentRecovery r) ?_
    split
    · exact h.replacePeriodic r
    · exact h.onOps r
    · exact h.startProbe r

theorem glitchReported (h : Closed k R) (r : R z s) : R z (s.glitchReported k) := by
  unfold State.glitchReported
  dsimp only
  have e : R z (s.latch k .glitch) := h.latch r
  split
  · exact h.judgeGlitch e
  iterate 6 exact h.restart e
  all_goals exact e

theorem removalRecovery (h : Closed k R) (r : R z s) : R z (s.removalRecovery k) := by
  unfold State.removalRecovery
  split
  · exact h.startRecovery r
  · exact h.onSeq r
  · exact r

theorem removed (h : Closed k R) (r : R z s) : R z (s.removed k) := by
  unfold State.removed
  dsimp only
  have a := h.endLight (h.endOps (h.own r fun c => c.loseModule_moves))
  have b := h.keep (f := (·.vacate)) (h.removalRecovery a) (fun _ => rfl) (fun _ => rfl) fun _ => le_rfl
  exact h.scan (h.returnCharge (h.ageLines (h.abortBurst (h.unstall (h.leaveService (h.dropReads (h.forgetBelief b)))))))

/-! ## The control pages (chapter 12) -/

theorem onProfile (h : Closed k R) {p : ProfileId} {f : Profile → Profile} (r : R z s)
    (e : ∀ x : Profile, (f x).lane.lit = x.lane.lit ∧ (f x).lane.dark = x.lane.dark) :
    R z (s.onProfile p f) := h.trans r (h.profile0 _ _ _ e)

theorem reselect (h : Closed k R) (r : R z s) : R z (s.reselect j) :=
  h.ite (h.onCtx (h.changeSelects r)) (h.changeSelects r)

theorem writeSelect (h : Closed k R) {p : ProfileId} {b : Bool} {v : Byte} (r : R z s) :
    R z (s.writeSelect p b v) :=
  h.foldCages h.reselect _ (h.onProfile r fun x => by split <;> exact ⟨rfl, rfl⟩)

theorem writeThreshold (h : Closed k R) {p : ProfileId} {b : Bool} {v : Byte} (r : R z s) :
    R z (s.writeThreshold p b v) := h.trans r (h.threshold0 ..)

theorem writeHeader (h : Closed k R) {p : ProfileId} {o : Nat} {v : Byte} (r : R z s) :
    R z (s.writeHeader p o v) :=
  h.ite (h.writeSelect r) (h.ite (h.writeSelect r) (h.ite (h.writeThreshold r) (h.ite (h.writeThreshold r)
    (h.onProfile r fun x => x.writeHeader_thresholds o v))))

theorem windowWrite (h : Closed k R) {o v : Byte} (r : R z s) : R z (s.windowWrite j o v) := by
  unfold State.windowWrite
  dsimp only
  split
  · exact h.writeHeader r
  · exact h.onProfile r fun _ => ⟨rfl, rfl⟩
  · exact h.onProfile r fun _ => ⟨rfl, rfl⟩
  · exact h.onProfile r fun _ => ⟨rfl, rfl⟩
  · exact r

theorem clearFlags (h : Closed k R) {w : FlagByte} {v : Byte} (r : R z s) : R z (s.clearFlags k w v) := by
  unfold State.clearFlags
  split
  · exact h.dev r ⟨rfl, rfl, rfl, rfl, rfl, rfl, rfl, rfl⟩
  · exact h.keep r (fun _ => rfl) (fun _ => rfl) fun _ => le_rfl
  · exact h.keep r (fun _ => rfl) (fun _ => rfl) fun _ => le_rfl

theorem writeEnables (h : Closed k R) {w : FlagByte} {v : Byte} (r : R z s) :
    R z (s.writeEnables k w v) := by
  unfold State.writeEnables
  split
  · exact h.dev r ⟨rfl, rfl, rfl, rfl, rfl, rfl, rfl, rfl⟩
  · exact h.keep r (fun _ => rfl) (fun _ => rfl) fun _ => le_rfl
  · exact h.keep r (fun _ => rfl) (fun _ => rfl) fun _ => le_rfl

theorem writeBudget (h : Closed k R) {v : Byte} (r : R z s) : R z (s.writeBudget v) :=
  h.scan (h.judgeOver (h.trans r (h.budget0 s v)))

theorem writeQuota (h : Closed k R) {v : Byte} (r : R z s) : R z (s.writeQuota k v) :=
  h.onJournal r fun _ => le_rfl

theorem writeSelector (h : Closed k R) {b : Bool} {v : Byte} (r : R z s) : R z (s.writeSelector k b v) :=
  h.keep r (fun _ => rfl) (fun _ => rfl) fun _ => le_rfl

theorem ctrlSetting (h : Closed k R) {o : Nat} {v : Byte} (r : R z s) : R z (s.ctrlSetting k o v) := by
  unfold State.ctrlSetting
  exact h.ite (h.clearFlags r) (h.ite (h.writeEnables r) (h.ite (h.writeBudget r) (h.ite (h.clearFlags r)
    (h.ite (h.clearFlags r) (h.ite (h.writeEnables r) (h.ite (h.writeEnables r) (h.ite (h.writeQuota r)
    (h.ite (h.writeSelector r) (h.ite (h.writeSelector r) (h.ite (h.trans r (h.setting0 ..))
    (h.own r fun c => c.writeOwn_moves o v)))))))))))

/-! ## Commands (chapter 12) -/

theorem resume (h : Closed k R) (r : R z s) : R z (s.resume k).1 := by
  unfold State.resume
  simp only [apply_ite Prod.fst]
  exact h.ite (h.askPulse (h.leaveService (h.departService r))) r

theorem adoptModule (h : Closed k R) (r : R z s) : R z (s.adoptModule k) :=
  h.setStanding (h.adoptLines (h.onJournal r Journal.emptied_length))

theorem adopt (h : Closed k R) (r : R z s) : R z (s.adopt k).1 := by
  unfold State.adopt
  split <;> dsimp only
  · exact h.startCapture (h.adoptModule r)
  · exact h.sampleAndCapture (h.beginServing (h.adoptModule r))
  · exact r

theorem forceReplay (h : Closed k R) (r : R z s) : R z (s.forceReplay k).1 := by
  unfold State.forceReplay
  simp only [apply_ite Prod.fst]
  refine h.ite ?_ r
  have e := h.goOnToPower (b := true) (h.onSeq (h.startRecovery (x := .forced) (h.endOps r))
    (f := fun q => { q with verified := false }))
  exact h.ite e (h.leaveService e)

theorem release (h : Closed k R) (r : R z s) : R z (s.release k).1 := by
  unfold State.release
  simp only [apply_ite Prod.fst]
  exact h.ite (h.raiseSample (h.beginServing r)) r

theorem moduleReset (h : Closed k R) (r : R z s) : R z (s.moduleReset k).1 := by
  unfold State.moduleReset
  simp only [apply_ite Prod.fst]
  exact h.ite (h.ite r (h.askPulse r)) r

theorem clearBursts (h : Closed k R) (r : R z s) : R z (s.clearBursts k) := by
  unfold State.clearBursts
  dsimp only
  refine h.abortBurst (h.quiet (h.withdraw ?_) fun c => ?_)
  · have e {f : Operations → Operations} {p : Prop} [Decidable p] :
        R z (if p then (s.onOps k f).startProbeTimer k else s.onOps k f) :=
      h.ite (h.startProbeTimer (h.onOps r)) (h.onOps r)
    split
    · exact h.endSample e
    · exact e
  · split
    · exact .refl c
    · exact c.withdrawAgent_quiet _

theorem cageClear (h : Closed k R) (r : R z s) : R z (s.cageClear k).1 := by
  unfold State.cageClear
  dsimp only
  have e := h.revealAny (j := k) (h.clearBursts (h.freeLines (j := k)
    (h.onJournal r Journal.emptied_length)))
  split <;> dsimp only
  · exact h.setStanding (h.onSeq e)
  · exact h.startCapture e
  · exact h.startCapture e
  · exact r

theorem bindProfile (h : Closed k R) {v : Byte} (r : R z s) : R z (s.bindProfile k v).1 := by
  unfold State.bindProfile
  split
  · simp only [apply_ite Prod.fst]
    exact h.ite (h.ite r (h.reselect (h.keep r (fun _ => rfl) (fun _ => rfl) fun _ => le_rfl))) r
  · exact r

theorem changeOwner (h : Closed k R) {l : SideLine} {o : LineOwner} (r : R z s) :
    R z (s.changeOwner k l o) := by
  unfold State.changeOwner
  dsimp only
  have e := h.keep r (f := (·.setOwner l o)) (fun c => by cases l <;> rfl) (fun c => by cases l <;> rfl)
    fun c => by cases l <;> exact le_rfl
  exact h.ite (h.chargeAtOnce e) e

theorem ownLine (h : Closed k R) {a b : Byte} (r : R z s) : R z (s.ownLine k a b).1 := by
  unfold State.ownLine
  split
  · simp only [apply_ite Prod.fst]
    exact h.ite r (h.ite r (h.ite r (h.changeOwner r)))
  · exact r

theorem moveLine (h : Closed k R) {l : SideLine} {v : Bool} (r : R z s) : R z (s.moveLine k l v) := by
  unfold State.moveLine
  dsimp only
  have e := h.keep r (f := (·.setLatch l v)) (fun c => by cases l <;> rfl) (fun c => by cases l <;> rfl)
    fun c => by cases l <;> exact le_rfl
  split
  · exact e
  · exact h.ite (h.mrstAsserted e) (h.mrstReleased e)

theorem setLine (h : Closed k R) {a b : Byte} (r : R z s) : R z (s.setLine k a b).1 := by
  unfold State.setLine
  split
  · simp only [apply_ite Prod.fst]
    exact h.ite r (h.ite r (h.moveLine r))
  · exact r

theorem takeSnapshot (h : Closed k R) {v : Byte} (r : R z s) : R z (s.takeSnapshot k v).1 := by
  unfold State.takeSnapshot
  simp only [apply_ite Prod.fst]
  exact h.ite (h.own r fun c => .snapshot c) (h.ite (h.takeDeviceSnapshot r) r)

theorem changeMode (h : Closed k R) {v : Byte} (r : R z s) : R z (s.changeMode v).1 := by
  unfold State.changeMode
  have e {m : Mode} : R z { s with mode := m } := h.dev r ⟨rfl, rfl, rfl, rfl, rfl, rfl, rfl, rfl⟩
  simp only [apply_ite Prod.fst]
  exact h.ite e (h.ite (h.ite r (h.foldCages h.revealAny _ e)) r)

theorem give (h : Closed k R) {c : Byte} {x : State × CommandResult} (r : R z x.1) :
    R z (State.give k c x) := h.keep r (fun _ => rfl) (fun _ => rfl) fun _ => le_rfl

theorem setArg0 (h : Closed k R) {v : Byte} (r : R z s) : R z (s.setArg0 k v) :=
  h.keep r (fun _ => rfl) (fun _ => rfl) fun _ => le_rfl

theorem setArg1 (h : Closed k R) {v : Byte} (r : R z s) : R z (s.setArg1 k v) :=
  h.keep r (fun _ => rfl) (fun _ => rfl) fun _ => le_rfl

theorem runCommand (h : Closed k R) {c : Byte} (r : R z s) : R z (s.runCommand k c).1 := by
  unfold State.runCommand
  split
  · exact h.resume r
  · exact h.adopt r
  · exact h.forceReplay r
  · exact h.release r
  · exact h.moduleReset r
  · exact h.cageClear r
  · exact h.bindProfile r
  · exact h.ownLine r
  · exact h.setLine r
  · exact h.takeSnapshot r
  · exact h.changeMode r
  · exact r

theorem pageWrite (h : Closed k R) {p : ControlPage} {o v : Byte} (r : R z s) :
    R z (s.pageWrite k p o v) := by
  unfold State.pageWrite
  split
  · exact h.ite (h.give (h.runCommand r)) (h.ctrlSetting r)
  · exact h.windowWrite r

end Closed

/-! ## The upstream side (chapter 1): the cage is the transaction's own -/

theorem State.takePiece_closed {k : CageId} {R : State → State → Prop} (h : Closed k R) {z s : State}
    {b : Bool} {p : Piece} (r : R z s) : R z (s.takePiece k b p) := by
  unfold State.takePiece
  split
  · exact h.onJournal r fun x => (x.fold_length ..).le
  · split
    · rename_i e
      exact h.trans r (h.append0 s p b e.2)
    · have e := h.own r fun c => c.losePiece_moves
      exact h.ite (h.latchDevice e) e

namespace Closed

variable {R : State → State → Prop} {z s : State} {g : GroupId} {k : CageId}

theorem takeWrite (h : ∀ k, Closed k R) {w : HandedWrite} (r : R z s) : R z (s.takeWrite w) := by
  unfold State.takeWrite
  refine (h w.cage).ite ((h w.cage).ite r ((h w.cage).own r fun c => .count c ..)) ?_
  generalize cutPieces w.bank w.page w.acknowledged = l
  induction l generalizing s with
  | nil => exact r
  | cons p l ih => exact ih (State.takePiece_closed (h w.cage) r)

theorem handOver (h : ∀ k, Closed k R) {x : Transfer} (r : R z s) : R z (s.handOver k x) :=
  takeWrite h (takeWrite h r)

theorem handRead (h : Closed k R) {x : Transfer} (r : R z s) : R z (s.handRead k x) :=
  h.ite (h.fillCache r) r

theorem endTransfer (h : ∀ k, Closed k R) (r : R z s) : R z (s.endTransfer g) := by
  unfold State.endTransfer
  split
  · exact r
  · rename_i k x _
    dsimp only
    have e : R z ((if (x.path.isRelayed && decide (x.relay = .live)) = true then s.concludeDown g k else
        s).acceptPending k) := (h k).onCtx ((h k).ite ((h k).concludeDown r) r)
    have f := (h k).ite (p := x.read = true) (handRead (h k) (x := x) e)
      (handOver h (k := k) (x := x) e)
    have t := (h k).setTransaction (g := g) (t := some { cage := some k, transfer := none }) f
    exact (h k).ite ((h k).resetWrite t) t

theorem beginTransaction (h : ∀ k, Closed k R) {b : BitVec 4} (r : R z s) :
    R z (s.beginTransaction g b) := by
  unfold State.beginTransaction
  have e {t : Option Transaction} {a : UpAnswer} : R z ((s.setTransaction g t).answer g a) :=
    (h 0).answer ((h 0).setTransaction r)
  split
  · exact e
  · exact e
  · exact (h 0).countDevice ((h 0).latchDevice e)

theorem endTransaction (h : ∀ k, Closed k R) (r : R z s) : R z (s.endTransaction g) := by
  unfold State.endTransaction
  split
  · exact r
  · exact (h 0).returnBus ((h 0).answer ((h 0).setTransaction (endTransfer h r)))

theorem nextTransfer (h : ∀ k, Closed k R) (r : R z s) : R z (s.nextTransfer g) := by
  unfold State.nextTransfer
  split
  · exact r
  · exact (h 0).answer (endTransfer h r)

theorem takeAddress (h : ∀ k, Closed k R) {a : BitVec 7} {b : Bool} (r : R z s) :
    R z (s.takeAddress g a b) := by
  unfold State.takeAddress
  split
  · exact (h 0).ite ((h 0).requestBus ((h 0).answer ((h 0).setTransaction r)))
      ((h 0).answer ((h 0).setTransaction r))
  · exact (h 0).answer r
  · exact r

theorem movePointer (h : Closed k R) {x : Transfer} {o : Byte} (r : R z s) : R z (s.movePointer k x o) :=
  h.ite (h.onCtx r) r

theorem relay (h : Closed k R) {x : Hold} (r : R z s) : R z (s.relay g x) :=
  h.arm (h.answer (h.setHold r))

theorem takeOffset (h : ∀ k, Closed k R) {o : Byte} (r : R z s) : R z (s.takeOffset g o) := by
  unfold State.takeOffset
  split
  · rename_i k x _
    refine (h k).ite r ?_
    dsimp only
    have e := (h k).onTransfer (g := g) (f := fun y => { y with offsetSeen := true })
      ((h k).movePointer (x := x) (o := o) r)
    split
    · exact (h k).ite ((h k).relay e) ((h k).answer e)
    · exact (h k).ite ((h k).relay e) ((h k).answer e)
    all_goals exact (h k).answer e
  · exact r

theorem pend (h : Closed k R) {o v : Byte} (r : R z s) : R z (s.pend k o v) := by
  unfold State.pend
  exact h.onCtx r

theorem post (h : Closed k R) {x : Transfer} {o v : Byte} (r : R z s) : R z (s.post g k x o v) :=
  h.ite (h.count (h.onTransfer r)) (h.count (h.onTransfer r))

theorem controlSelect (h : Closed k R) {x : Transfer} {v : Byte} (r : R z s) :
    R z (s.controlSelect g k x v) := h.answer (h.onCtx (h.afterSelect r))

theorem takeData (h : Closed k R) {x : Transfer} {o v : Byte} (r : R z s) :
    R z (s.takeData g k x o v) := by
  unfold State.takeData
  dsimp only
  split
  · exact h.relay r
  · exact h.ite (h.answer (h.onTransfer (h.pend r))) (h.answer (h.post r))
  · exact h.ite (h.answer (h.pend r)) (h.answer (h.onTransfer r))
  all_goals exact h.answer r

theorem writeModule (h : Closed k R) {x : Transfer} {o v : Byte} (r : R z s) :
    R z (s.writeModule g k x o v) := by
  unfold State.writeModule
  split
  · exact h.pageWrite (h.answer (h.afterSelect r))
  · exact h.ite (h.answer r) (h.ite (h.controlSelect r) (h.takeData r))

theorem takeWriteByte (h : ∀ k, Closed k R) {v : Byte} (r : R z s) : R z (s.takeWriteByte g v) := by
  unfold State.takeWriteByte
  split
  · rename_i k x _
    refine (h k).ite r ?_
    dsimp only
    have e {o : Byte} : R z (s.movePointer k x o) := (h k).movePointer r
    split
    · exact (h k).relay e
    iterate 5 exact (h k).answer e
    exact (h k).writeModule e
  · exact r

theorem supply (h : Closed k R) {v : Byte} {a : Bool} (r : R z s) : R z (s.supply g v a) :=
  h.answer (h.onTransfer r)

theorem supplyConcealed (h : Closed k R) {x : Transfer} {o : Byte} {a : Bool} (r : R z s) :
    R z (s.supplyConcealed g k x o a) := by
  unfold State.supplyConcealed
  split
  · exact h.supply r
  · exact h.supply (h.count r)

theorem supplyPage (h : Closed k R) {x : Transfer} {p : ControlPage} {o : Byte} {a : Bool} (r : R z s) :
    R z (s.supplyPage g k x p o a) := h.supply (h.onTransfer (h.afterSelect r))

theorem readModule (h : Closed k R) {x : Transfer} {o : Byte} {a : Bool} (r : R z s) :
    R z (s.readModule g k x o a) := by
  unfold State.readModule
  split
  · exact h.supplyPage r
  · split
    · exact h.supplyConcealed r
    · exact h.ite (h.relay r) (h.supply r)
    · exact h.answer r

theorem takeReadByte (h : ∀ k, Closed k R) {a : Bool} (r : R z s) : R z (s.takeReadByte g a) := by
  unfold State.takeReadByte
  split
  · rename_i k x _
    refine (h k).ite r ?_
    dsimp only
    have e {o : Byte} : R z (s.movePointer k x o) := (h k).movePointer r
    split
    iterate 4 exact (h k).answer r
    · exact (h k).relay r
    · exact (h k).supply r
    · exact (h k).supply e
    · exact (h k).readModule e
  · exact r

/-! ## The downstream side -/

theorem hostAnswered (h : Closed k R) {a : UpAnswer} (r : R z s) : R z (s.hostAnswered g a) :=
  h.answer (h.disarm (h.setHold r))

theorem atBoundary (h : ∀ k, Closed k R) (r : R z s) : R z (s.atBoundary g) := by
  unfold State.atBoundary
  split
  · split
    · exact (h 0).cutNow r
    · exact r
  · exact r

theorem refuseResync (h : Closed k R) (r : R z s) : R z (s.refuseResync g k) :=
  h.hostAnswered (h.onTransfer (h.forgetBelief r))

theorem cutResync (h : Closed k R) {p : Path} (r : R z s) : R z (s.cutResync g p) :=
  h.returnBus (h.answerOn (h.select (h.disarm r)))

theorem resyncAnswer (h : Closed k R) {x : Transfer} {j : Job} {a : Bool} (r : R z s) :
    R z (s.resyncAnswer g k x j a) := by
  unfold State.resyncAnswer
  dsimp only
  refine h.ite ?_ ?_
  · split
    · exact h.cutResync (h.setBelief r)
    · exact h.ite (h.arm (h.setHold (h.setBelief (h.setBelief r)))) (h.arm (h.setHold (h.setBelief r)))
  · split
    · exact h.cutResync (h.count (h.forgetBelief r))
    · exact h.select (h.refuseResync (h.count r))

theorem addressAnswer (h : Closed k R) {x : Transfer} {a : Bool} (r : R z s) :
    R z (s.addressAnswer g x a) :=
  h.ite (h.hostAnswered r) (h.ite (h.select (h.hostAnswered (h.onTransfer r))) (h.hostAnswered r))

theorem followByte (h : Closed k R) {x : Transfer} {b : DownByte} {a : Bool} (r : R z s) :
    R z (s.followByte k x b a) := h.ite (h.ite (h.setBelief r) (h.forgetBelief r)) r

theorem noteSelect (h : Closed k R) {o v : Byte} (r : R z s) : R z (s.noteSelect g k o v) :=
  h.ite (h.onTransfer (h.pend r)) (h.ite (h.onTransfer (h.pend r)) r)

theorem noteData (h : Closed k R) {x : Transfer} {o v : Byte} {a : Bool} (r : R z s) :
    R z (s.noteData g k x o v a) := by
  unfold State.noteData
  dsimp only
  exact h.ite (h.ite (h.noteSelect (h.onTransfer r)) (h.onTransfer r)) r

theorem noteRead (h : Closed k R) {x : Transfer} {o v : Byte} (r : R z s) : R z (s.noteRead g k x o v) :=
  h.ite (h.onTransfer r) r

theorem readAnswer (h : Closed k R) {x : Transfer} {o v : Byte} {a : Bool} (r : R z s) :
    R z (s.readAnswer g k x o a v) := by
  unfold State.readAnswer
  dsimp only
  have e {b : Bool} {u : UpAnswer} {f : Transfer → Transfer} :
      R z ((((s.followByte k x .read true).noteRead g k x o v).setLastAck g b |>.onTransfer g
        f).hostAnswered g u) := h.hostAnswered (h.onTransfer (h.setLastAck (h.noteRead (h.followByte r))))
  exact h.ite (h.afterSelect e) e

theorem hostByteAnswer (h : ∀ k, Closed k R) {a : Bool} {v : Byte} (r : R z s) :
    R z (s.hostByteAnswer g a v) := by
  unfold State.hostByteAnswer
  split
  · rename_i k x _
    split
    iterate 3 exact r
    · exact (h k).resyncAnswer r
    · exact atBoundary h ((h k).addressAnswer r)
    · exact atBoundary h ((h k).hostAnswered ((h k).followByte r))
    · exact atBoundary h ((h k).hostAnswered ((h k).noteData ((h k).followByte r)))
    · exact atBoundary h ((h k).readAnswer r)
  · exact r

theorem moduleAnswers (h : ∀ k, Closed k R) {a : Bool} {v : Byte} (r : R z s) :
    R z (s.moduleAnswers g a v) := by
  unfold State.moduleAnswers
  dsimp only
  refine (h 0).ite ?_ r
  split
  · split
    · exact (h 0).burstAnswer r
    · exact r
  · exact hostByteAnswer h r
  · exact r

theorem hostStall (h : ∀ k, Closed k R) {x : Transfer} (r : R z s) : R z (s.hostStall g k x) := by
  unfold State.hostStall
  dsimp only
  have e {f : Group → Group} : R z (((s.forgetBelief k).count k .moduleStalls).onGroup g f) :=
    (h k).onGroup ((h k).count ((h k).forgetBelief r))
  split
  iterate 3 exact r
  · split
    · exact (h k).returnBus ((h k).answerOn ((h k).disarm e))
    · exact (h k).refuseResync e
  all_goals exact atBoundary h ((h k).hostAnswered ((h k).onTransfer e))

theorem moduleStalls (h : ∀ k, Closed k R) (r : R z s) : R z (s.moduleStalls g) := by
  unfold State.moduleStalls
  dsimp only
  refine (h 0).ite ?_ r
  split
  · split
    · exact (h 0).burstStall r
    · exact r
  · split
    · exact hostStall h r
    · exact r
  · exact r

theorem burstReleased (h : Closed k R) {b : Burst} (r : R z s) : R z (s.burstReleased g b) := by
  unfold State.burstReleased
  refine h.ite (h.closeBurst r) ?_
  split
  · exact h.startRestore (h.select r)
  · exact h.startRestore (h.select r)
  · exact h.stopBurst r
  · exact h.stopBurst r

theorem moduleReleases (h : Closed k R) (r : R z s) : R z (s.moduleReleases g) := by
  unfold State.moduleReleases
  dsimp only
  refine h.ite ?_ r
  have e {f : Group → Group} : R z (s.onGroup g f) := h.onGroup r
  split
  · split
    · exact h.burstReleased e
    · exact e
  · exact h.freeBus e
  · split
    · exact h.startForward (h.select e)
    · exact h.select e
  · exact e

theorem hostWaitOver (h : Closed k R) (r : R z s) : R z (s.hostWaitOver g) := by
  unfold State.hostWaitOver
  split
  · exact r
  · split
    · exact h.answerOn (h.stopWaiting r)
    · exact h.stopWaiting r

theorem dropTransfer (h : Closed k R) {x : Option Transfer} (r : R z s) : R z (s.dropTransfer k x) := by
  unfold State.dropTransfer
  dsimp only
  split
  · exact h.ite (h.forgetBelief (h.onCtx r)) (h.onCtx r)
  · exact h.onCtx r

theorem abandon (h : ∀ k, Closed k R) (r : R z s) : R z (s.abandon g) := by
  unfold State.abandon
  refine (h 0).ite r ?_
  split
  · exact (h 0).returnBus ((h 0).answer ((h 0).setTransaction ((h 0).countDevice ((h _).dropTransfer r))))
  · exact r

/-! ## The commands -/

theorem whenever (_ : Closed k R) {b : Bool} {f : State → State} (r : R z s) (e : R z (f s)) :
    R z (s.whenever b f) := by
  unfold State.whenever
  split <;> assumption

end Closed

end Sys2Proof.Machine
end

