-- ==== Sys2Proof/Laws/Commands.lean ====
section
/-! SUPPORT. What a command answers, and how a relation closed under the primitive updates is carried across every command but
the two reset rows. -/

namespace Sys2Proof.Machine

/-! ## Events -/

/-- Outside reset an event answers its effect, with ALERT driven. -/
theorem event_next {s : State} (f : State → State) (h : s.inReset = false) :
    event s f = .next (f s).driveAlert := by
  unfold event
  rw [h]
  rfl

/-- In reset an event changes nothing. -/
theorem event_reset {s : State} (f : State → State) (h : s.inReset = true) : event s f = .next s := by
  unfold event
  rw [h]
  rfl

/-- Every command but the two reset rows is an event: its effect outside reset, with ALERT driven. -/
theorem exec_event {c : Instr} (h : isReset c = false) : ∃ f, ∀ s, exec c s = event s f := by
  cases c <;> simp only [isReset, reduceCtorEq] at h <;> dsimp only [exec,
    execStart, execRepeatedStart, execStop, execAddressByte, execOffsetByte, execWriteDataByte,
    execReadDataByte, execModuleAnswer, execModuleStall, execModuleReleasesDscl, execHostWaitExpiry,
    execAbandoned, execBurstEnd, execRetryIntervalExpiry, execRise, execDropDuringSettle, execBounce,
    execSettleQualification, execUnacceptedRemoval, execDrop, execGlitch, execQualifiedRemoval,
    execMirqChange, execResetPulseEnd, execBootTimeout, execBootDelay, execRampTimeout, execRampDelay,
    execPollTimerExpiry, execSettleWaitEnd, execServingCheck, execConcealTimerExpiry,
    execRevealMinimumExpiry, execSampleTimerExpiry, execLightTimeout, execProbeTimerExpiry, execResume,
    execAdopt, execForceReplay, execRelease, execModuleReset, execCageClear, execBindProfile, execOwn,
    execLine, execSnapshotCage, execSnapshotDevice, execSetMode, execUnknownCommand, execFlagClear,
    execEnableWrite, execBudgetWrite, execQuotaWrite, execSelectOffsetWrite, execThresholdWrite,
    execWindowSelectorWrite, execProfileFieldWrite, execSettingWrite] <;> exact ⟨_, fun _ => rfl⟩

theorem State.whenever_true {s : State} {b : Bool} (f : State → State) (h : b = true) :
    s.whenever b f = f s := by
  subst h
  rfl

/-- An event whose occasion stands answers its effect. -/
theorem event_whenever {s : State} (b : State → Bool) (f : State → State) (h : s.inReset = false)
    (e : b s = true) : event s (fun t => t.whenever (b t) f) = .next (f s).driveAlert := by
  rw [event_next _ h, State.whenever_true _ e]

theorem State.whenever_false {s : State} {b : Bool} (f : State → State) (h : b = false) :
    s.whenever b f = s := by
  subst h
  rfl

namespace Closed

variable {k : CageId} {R : State → State → Prop} {s t : State}

theorem driveAlert (h : Closed k R) {z : State} (r : R z s) : R z s.driveAlert :=
  h.dev r ⟨rfl, rfl, rfl, rfl, rfl, rfl, rfl, rfl⟩

theorem event (h : Closed k R) {f : State → State} (e : event s f = .next t) (r : R s (f s)) : R s t := by
  have e : (if s.inReset then s else (f s).driveAlert) = t := Host.Outcome.next.inj e
  rw [← e]
  exact h.ite (h.refl s) (h.driveAlert r)

/-- A relation closed under the updates of cage `k` holds across every command that addresses it. -/
theorem execOwn (h : Closed k R) {c : Instr} (a : addressedCage c = some k) (e : Machine.exec c s = .next t) :
    R s t := by
  have r := h.refl s
  cases c <;> simp only [addressedCage, Option.some.injEq, reduceCtorEq] at a <;> subst a <;>
    dsimp only [Machine.exec,
      execRetryIntervalExpiry, execRise, execDropDuringSettle, execBounce, execSettleQualification,
      execUnacceptedRemoval, execDrop, execGlitch, execQualifiedRemoval, execMirqChange, execResetPulseEnd,
      execBootTimeout, execBootDelay, execRampTimeout, execRampDelay, execPollTimerExpiry,
      execSettleWaitEnd, execServingCheck, execConcealTimerExpiry, execRevealMinimumExpiry,
      execSampleTimerExpiry, execLightTimeout, execProbeTimerExpiry, execResume, execAdopt,
      execForceReplay, execRelease, execModuleReset, execCageClear, execBindProfile, execOwn, execLine,
      execSnapshotCage, execSnapshotDevice, execSetMode, execUnknownCommand, execFlagClear,
      execEnableWrite, execQuotaWrite, execWindowSelectorWrite, execProfileFieldWrite, execSettingWrite] at e <;> refine h.event e ?_
  case retryIntervalExpiry agent =>
    unfold State.retryOver
    split
    · exact h.whenever r (h.sequencerRetry r)
    · split
      · exact h.whenever r (h.monitorRetry r)
      · exact r
  case rise => exact h.whenever r (h.keep r (fun _ => rfl) (fun _ => rfl) fun _ => le_rfl)
  case dropDuringSettle => exact h.whenever r (h.onQual r)
  case bounce => exact h.whenever r (h.own r fun c => c.bounce_moves ..)
  case settleQualification => exact h.whenever r (h.settleQualifies r)
  case unacceptedRemoval =>
    exact h.whenever r (h.keep r (fun _ => rfl) (fun _ => rfl) fun _ => le_rfl)
  case drop => exact h.whenever r (h.onQual r)
  case glitch =>
    exact h.whenever r (h.glitchReported (h.own r fun c =>
      .trans (d := { c with qual := c.qual.glitch }) (.keep rfl rfl le_rfl) (.count ..)))
  case qualifiedRemoval => exact h.whenever r (h.removed r)
  case mirqChange => exact h.onQual r
  case resetPulseEnd =>
    exact h.whenever r (h.mrstReleased
      (h.keep r (fun _ => rfl) (fun _ => rfl) fun _ => le_rfl))
  case bootTimeout => exact h.whenever r (h.enterHeld r)
  case bootDelay => exact h.whenever r (h.enterIdentifying (h.endWait r))
  case rampTimeout => exact h.whenever r (h.enterHeld r)
  case rampDelay => exact h.whenever r (h.enterReplaying (h.endWait r))
  case pollTimerExpiry => exact h.whenever r (h.raisePoll r)
  case settleWaitEnd => exact h.whenever r (h.settleOver r)
  case servingCheck => exact h.whenever r (h.serve r)
  case concealTimerExpiry => exact h.whenever r (h.revealAny r)
  case revealMinimumExpiry => exact h.whenever r (h.onSeq r)
  case sampleTimerExpiry => exact h.whenever r (h.raiseSample r)
  case lightTimeout => exact h.whenever r (h.onSeq (h.setDim (h.endLight r)))
  case probeTimerExpiry =>
    exact h.whenever r (h.ite (h.startProbeTimer r) (h.startProbe (h.onSeq r)))
  case resume => exact h.give (h.resume r)
  case adopt => exact h.give (h.adopt r)
  case forceReplay => exact h.give (h.forceReplay r)
  case release => exact h.give (h.release r)
  case moduleReset => exact h.give (h.moduleReset r)
  case cageClear => exact h.give (h.cageClear r)
  case bindProfile => exact h.give (h.bindProfile (h.setArg0 r))
  case own => exact h.give (h.ownLine (h.setArg1 (h.setArg0 r)))
  case line => exact h.give (h.setLine (h.setArg1 (h.setArg0 r)))
  case snapshotCage => exact h.give (h.takeSnapshot (h.setArg0 r))
  case snapshotDevice => exact h.give (h.takeSnapshot (h.setArg0 r))
  case setMode => exact h.give (h.changeMode (h.setArg0 r))
  case unknownCommand => exact h.give (h.runCommand r)
  case flagClear => exact h.clearFlags r
  case enableWrite => exact h.writeEnables r
  case quotaWrite => exact h.writeQuota r
  case windowSelectorWrite => exact h.writeSelector r
  case profileFieldWrite => exact h.windowWrite r
  case settingWrite => exact h.pageWrite r

/-- A relation closed under the updates of every cage holds across every command but the reset rows. -/
theorem execAny (h : ∀ k, Closed k R) {c : Instr} (a : isReset c = false) (e : Machine.exec c s = .next t) : R s t := by
  rcases b : addressedCage c with _ | k
  · have r := (h 0).refl s
    cases c <;> simp only [addressedCage, isReset, reduceCtorEq] at a b <;>
      dsimp only [Machine.exec,
        execStart, execRepeatedStart, execStop, execAddressByte, execOffsetByte, execWriteDataByte,
        execReadDataByte, execModuleAnswer, execModuleStall, execModuleReleasesDscl, execHostWaitExpiry,
        execAbandoned, execBurstEnd, execBudgetWrite, execSelectOffsetWrite, execThresholdWrite] at e <;> refine (h 0).event e ?_
    case start => exact (h 0).whenever r (beginTransaction h (endTransaction h r))
    case repeatedStart => exact (h 0).whenever r (nextTransfer h r)
    case stop => exact (h 0).whenever r (endTransaction h r)
    case addressByte => exact (h 0).whenever r (takeAddress h r)
    case offsetByte => exact (h 0).whenever r (takeOffset h r)
    case writeDataByte => exact (h 0).whenever r (takeWriteByte h r)
    case readDataByte => exact (h 0).whenever r (takeReadByte h r)
    case moduleAnswer => exact moduleAnswers h r
    case moduleStall => exact moduleStalls h r
    case moduleReleasesDscl => exact (h 0).moduleReleases r
    case hostWaitExpiry => exact (h 0).hostWaitOver r
    case abandoned => exact abandon h r
    case burstEnd =>
      split
      · exact (h _).endBurst r
      · exact r
    case budgetWrite => exact (h 0).writeBudget r
    case selectOffsetWrite => exact (h 0).writeSelect r
    case thresholdWrite => exact (h 0).writeThreshold r
  · exact (h k).execOwn b e

end Closed

end Sys2Proof.Machine
end

