-- ==== Sys2Proof/Laws/Bus.lean ====
section
/-! SUPPORT. What the bus operations can do, said once: the arbiter and the request slots change nothing but their own group's
bus (`BusOnly`). -/

namespace Sys2Proof.Machine

theorem SameButSlot.refl (c : Cage) : SameButSlot c c :=
  ⟨rfl, rfl, rfl, rfl, rfl, rfl, rfl, rfl, rfl, rfl, rfl, rfl, rfl, rfl, rfl⟩

theorem SameButSlot.trans {c d e : Cage} (a : SameButSlot c d) (b : SameButSlot d e) : SameButSlot c e :=
  ⟨b.ctx.trans a.ctx, b.qual.trans a.qual, b.seq.trans a.seq, b.ops.trans a.ops, b.light.trans a.light,
    b.ledger.trans a.ledger, b.journal.trans a.journal, b.standing.trans a.standing,
    b.binding.trans a.binding, b.settings.trans a.settings, b.events.trans a.events,
    b.control.trans a.control, b.mrstOwner.trans a.mrstOwner, b.mlowOwner.trans a.mlowOwner,
    b.pulse.trans a.pulse⟩

theorem SameButSlot.slots (c : Cage) (x : Slot) (q : List (Agent × Request)) :
    SameButSlot c { c with slot := x, slotQueue := q } :=
  ⟨rfl, rfl, rfl, rfl, rfl, rfl, rfl, rfl, rfl, rfl, rfl, rfl, rfl, rfl, rfl⟩

theorem SameButSlot.driveLines (c : Cage) : SameButSlot c c.driveLines :=
  ⟨rfl, rfl, rfl, rfl, rfl, rfl, rfl, rfl, rfl, rfl, rfl, rfl, rfl, rfl, rfl⟩

theorem SameButSlot.fillSlot (c : Cage) : SameButSlot c c.fillSlot := by
  unfold Cage.fillSlot
  split
  · exact .slots ..
  · exact .refl c

theorem SameDevice.refl (s : State) : SameDevice s s :=
  ⟨rfl, rfl, rfl, rfl, rfl, rfl, rfl, rfl, rfl, rfl, rfl, rfl, rfl, rfl⟩

theorem SameDevice.trans {s t u : State} (a : SameDevice s t) (b : SameDevice t u) : SameDevice s u :=
  ⟨b.profiles.trans a.profiles, b.cache.trans a.cache, b.queue.trans a.queue,
    b.committed.trans a.committed, b.settings.trans a.settings, b.mode.trans a.mode,
    b.straps.trans a.straps, b.flags.trans a.flags, b.enables.trans a.enables,
    b.counters.trans a.counters, b.snapshot.trans a.snapshot, b.inReset.trans a.inReset,
    b.ties.trans a.ties, b.pending.trans a.pending⟩

theorem SameDevice.onCage (s : State) (k : CageId) (f : Cage → Cage) : SameDevice s (s.onCage k f) :=
  ⟨rfl, rfl, rfl, rfl, rfl, rfl, rfl, rfl, rfl, rfl, rfl, rfl, rfl, rfl⟩

theorem SameDevice.onGroup (s : State) (g : GroupId) (f : Group → Group) : SameDevice s (s.onGroup g f) :=
  ⟨rfl, rfl, rfl, rfl, rfl, rfl, rfl, rfl, rfl, rfl, rfl, rfl, rfl, rfl⟩

theorem SameDevice.driveAlert (s : State) : SameDevice s s.driveAlert :=
  ⟨rfl, rfl, rfl, rfl, rfl, rfl, rfl, rfl, rfl, rfl, rfl, rfl, rfl, rfl⟩

theorem BusOnly.refl (g : GroupId) (s : State) : BusOnly g s s :=
  ⟨fun _ => .refl _, fun _ _ => rfl, .refl s⟩

theorem BusOnly.trans {g : GroupId} {s t u : State} (a : BusOnly g s t) (b : BusOnly g t u) :
    BusOnly g s u :=
  ⟨fun j => (a.cages j).trans (b.cages j), fun h n => (b.groups h n).trans (a.groups h n),
    a.device.trans b.device⟩

theorem BusOnly.driveAlert {g : GroupId} {s t : State} (a : BusOnly g s t) : BusOnly g s t.driveAlert :=
  ⟨a.cages, a.groups, a.device.trans (.driveAlert t)⟩

/-- An event that addresses one cage's own fields and nothing else. -/
theorem OnlyCage.driveAlert {k : CageId} {s t : State} (a : OnlyCage k s t) : OnlyCage k s t.driveAlert :=
  ⟨a.others, a.groups, a.device.trans (.driveAlert t)⟩

theorem OnlyCage.onCage (s : State) (k : CageId) (f : Cage → Cage) : OnlyCage k s (s.onCage k f) :=
  ⟨fun _ n => State.cage_onCage_ne s n f, rfl, .onCage s k f⟩

theorem OnlyCage.refl (k : CageId) (s : State) : OnlyCage k s s := ⟨fun _ _ => rfl, rfl, .refl s⟩

theorem OnlyCage.trans {k : CageId} {s t u : State} (a : OnlyCage k s t) (b : OnlyCage k t u) :
    OnlyCage k s u :=
  ⟨fun j n => (b.others j n).trans (a.others j n), b.groups.trans a.groups, a.device.trans b.device⟩

namespace BusOnly

variable {g : GroupId} {k : CageId} {z s : State}

theorem onGroup {f : Group → Group} (r : BusOnly g z s) : BusOnly g z (s.onGroup g f) :=
  r.trans ⟨fun _ => .refl _, fun _ n => State.group_onGroup_ne s n f, .onGroup s g f⟩

theorem onSlot {f : Cage → Cage} (r : BusOnly g z s) (e : ∀ c, SameButSlot c (f c)) :
    BusOnly g z (s.onCage k f) :=
  r.trans ⟨fun j => by
    rw [State.cage_onCage]
    split
    · rename_i h
      subst h
      exact (e _).trans (.driveLines _)
    · exact .refl _, fun _ _ => rfl, .onCage s k f⟩

theorem onTransfer {f : Transfer → Transfer} (r : BusOnly g z s) : BusOnly g z (s.onTransfer g f) :=
  onGroup r

theorem setHold {x : Hold} (r : BusOnly g z s) : BusOnly g z (s.setHold g x) := onTransfer r

theorem startData {b : Burst} (r : BusOnly g z s) : BusOnly g z (s.startData g b) :=
  onGroup (f := fun x => { x with down := { x.down with wait := some (Timer.start s.settings.moduleWait) } })
    (onGroup r)

theorem ite {s t : State} {p : Prop} [Decidable p] (a : BusOnly g z s) (b : BusOnly g z t) :
    BusOnly g z (if p then s else t) := by
  split <;> assumption

theorem startForward (r : BusOnly g z s) : BusOnly g z (s.startForward g) := by
  unfold State.startForward
  split
  · exact r
  · dsimp only
    split
    · split <;> exact setHold (onGroup (onGroup r))
    · exact setHold (onGroup (onGroup r))

theorem beginBurst {a : Agent} {q : Request} (r : BusOnly g z s) : BusOnly g z (s.beginBurst g k a q) := by
  unfold State.beginBurst
  dsimp only
  have e {f : Group → Group} :
      BusOnly g z (((s.onCage k fun c => { c with slot := .running }).onGroup g f).select g (some k)) :=
    onGroup (onGroup (onSlot r fun c => .slots c _ c.slotQueue))
  exact ite (startData e) (onGroup (onGroup e))

theorem arbitrate (r : BusOnly g z s) : BusOnly g z (s.arbitrate g) := by
  unfold State.arbitrate
  refine ite ?_ r
  split
  · exact startForward (onGroup r)
  · split
    · exact beginBurst r
    · exact r

theorem freeBus (r : BusOnly g z s) : BusOnly g z (s.freeBus g) := arbitrate (onGroup r)

theorem returnBus (r : BusOnly g z s) : BusOnly g z (s.returnBus g) := by
  unfold State.returnBus
  split
  · exact ite (onGroup r) (freeBus r)
  · exact r

theorem requestBus (r : BusOnly g z s) : BusOnly g z (s.requestBus g k) := by
  unfold State.requestBus
  split
  · exact startForward (onGroup r)
  · exact ite (setHold r) (startForward r)
  · exact setHold (onGroup r)
  · exact setHold (onGroup r)

/-- R21: a request raised by an agent of cage `k` may fill the slot and be handed the bus; nothing else changes. -/
theorem raise {a : Agent} {q : Request} (r : BusOnly (groupOf k) z s) :
    BusOnly (groupOf k) z (s.raise k a q) :=
  arbitrate (onSlot r fun c => (SameButSlot.slots c c.slot _).trans (.fillSlot _))

/-- R21: a withdrawal empties a request of cage `k`; nothing but its group's bus changes. -/
theorem withdraw {a : Agent} (r : BusOnly (groupOf k) z s) : BusOnly (groupOf k) z (s.withdraw k a) :=
  arbitrate (onGroup (onSlot r fun c => (SameButSlot.slots c _ _).trans (.fillSlot _)))

theorem closeBurst (r : BusOnly (groupOf k) z s) : BusOnly (groupOf k) z (s.closeBurst k) :=
  freeBus (onSlot r fun c => (SameButSlot.slots c .empty c.slotQueue).trans (.fillSlot _))

end BusOnly

/-! ## Events of one cage -/

namespace CageAndBus

variable {k : CageId} {z s t : State}

theorem refl (k : CageId) (s : State) : CageAndBus k s s := ⟨fun _ _ => .refl _, fun _ _ => rfl, .refl s⟩

theorem trans (a : CageAndBus k s t) {u : State} (b : CageAndBus k t u) : CageAndBus k s u :=
  ⟨fun j n => (a.others j n).trans (b.others j n), fun h n => (b.groups h n).trans (a.groups h n),
    a.device.trans b.device⟩

theorem bus (a : CageAndBus k z s) (b : BusOnly (groupOf k) s t) : CageAndBus k z t :=
  a.trans ⟨fun j _ => b.cages j, b.groups, b.device⟩

theorem onCage {f : Cage → Cage} (a : CageAndBus k z s) : CageAndBus k z (s.onCage k f) :=
  a.trans ⟨fun j n => by rw [State.cage_onCage_ne s n]; exact .refl _, fun _ _ => rfl, .onCage s k f⟩

theorem onGroup {f : Group → Group} (a : CageAndBus k z s) : CageAndBus k z (s.onGroup (groupOf k) f) :=
  a.bus (BusOnly.onGroup (.refl _ s))

theorem driveAlert (a : CageAndBus k z s) : CageAndBus k z s.driveAlert :=
  ⟨a.others, a.groups, a.device.trans (.driveAlert s)⟩

theorem ite {p : Prop} [Decidable p] (a : CageAndBus k z s) (b : CageAndBus k z t) :
    CageAndBus k z (if p then s else t) := by
  split <;> assumption

theorem raise {a : Agent} {r : Request} (e : CageAndBus k z s) : CageAndBus k z (s.raise k a r) :=
  e.bus (BusOnly.raise (.refl _ s))

theorem withdraw {a : Agent} (e : CageAndBus k z s) : CageAndBus k z (s.withdraw k a) :=
  e.bus (BusOnly.withdraw (.refl _ s))

theorem closeBurst (e : CageAndBus k z s) : CageAndBus k z (s.closeBurst k) :=
  e.bus (BusOnly.closeBurst (.refl _ s))

end CageAndBus

end Sys2Proof.Machine
end

