-- ==== Sys2Proof/Laws/BusFields.lean ====
section
/-! SUPPORT. The fields that the bus operations leave alone, one lemma per field and operation, each from `BusOnly`. -/

namespace Sys2Proof.Machine

namespace State

variable (s : State)

theorem arbitrate_busOnly (g : GroupId) : BusOnly (g) s (s.arbitrate g) := BusOnly.arbitrate (.refl g s)

@[simp] theorem arbitrate_ctx (g : GroupId) (j : CageId) :
    ((s.arbitrate g).cage j).ctx = (s.cage j).ctx := ((s.arbitrate_busOnly g).cages j).ctx

@[simp] theorem arbitrate_qual (g : GroupId) (j : CageId) :
    ((s.arbitrate g).cage j).qual = (s.cage j).qual := ((s.arbitrate_busOnly g).cages j).qual

@[simp] theorem arbitrate_seq (g : GroupId) (j : CageId) :
    ((s.arbitrate g).cage j).seq = (s.cage j).seq := ((s.arbitrate_busOnly g).cages j).seq

@[simp] theorem arbitrate_ops (g : GroupId) (j : CageId) :
    ((s.arbitrate g).cage j).ops = (s.cage j).ops := ((s.arbitrate_busOnly g).cages j).ops

@[simp] theorem arbitrate_light (g : GroupId) (j : CageId) :
    ((s.arbitrate g).cage j).light = (s.cage j).light := ((s.arbitrate_busOnly g).cages j).light

@[simp] theorem arbitrate_ledger (g : GroupId) (j : CageId) :
    ((s.arbitrate g).cage j).ledger = (s.cage j).ledger := ((s.arbitrate_busOnly g).cages j).ledger

@[simp] theorem arbitrate_journal (g : GroupId) (j : CageId) :
    ((s.arbitrate g).cage j).journal = (s.cage j).journal := ((s.arbitrate_busOnly g).cages j).journal

@[simp] theorem arbitrate_standing (g : GroupId) (j : CageId) :
    ((s.arbitrate g).cage j).standing = (s.cage j).standing := ((s.arbitrate_busOnly g).cages j).standing

@[simp] theorem arbitrate_binding (g : GroupId) (j : CageId) :
    ((s.arbitrate g).cage j).binding = (s.cage j).binding := ((s.arbitrate_busOnly g).cages j).binding

@[simp] theorem arbitrate_settings (g : GroupId) (j : CageId) :
    ((s.arbitrate g).cage j).settings = (s.cage j).settings := ((s.arbitrate_busOnly g).cages j).settings

@[simp] theorem arbitrate_events (g : GroupId) (j : CageId) :
    ((s.arbitrate g).cage j).events = (s.cage j).events := ((s.arbitrate_busOnly g).cages j).events

@[simp] theorem arbitrate_control (g : GroupId) (j : CageId) :
    ((s.arbitrate g).cage j).control = (s.cage j).control := ((s.arbitrate_busOnly g).cages j).control

@[simp] theorem arbitrate_mrstOwner (g : GroupId) (j : CageId) :
    ((s.arbitrate g).cage j).lines.mrstOwner = (s.cage j).lines.mrstOwner := ((s.arbitrate_busOnly g).cages j).mrstOwner

@[simp] theorem arbitrate_mlowOwner (g : GroupId) (j : CageId) :
    ((s.arbitrate g).cage j).lines.mlowOwner = (s.cage j).lines.mlowOwner := ((s.arbitrate_busOnly g).cages j).mlowOwner

@[simp] theorem arbitrate_pulse (g : GroupId) (j : CageId) :
    ((s.arbitrate g).cage j).lines.pulse = (s.cage j).lines.pulse := ((s.arbitrate_busOnly g).cages j).pulse

@[simp] theorem arbitrate_profiles (g : GroupId) : (s.arbitrate g).profiles = s.profiles := (s.arbitrate_busOnly g).device.profiles

@[simp] theorem arbitrate_cache (g : GroupId) : (s.arbitrate g).cache = s.cache := (s.arbitrate_busOnly g).device.cache

@[simp] theorem arbitrate_queue (g : GroupId) : (s.arbitrate g).queue = s.queue := (s.arbitrate_busOnly g).device.queue

@[simp] theorem arbitrate_committed (g : GroupId) : (s.arbitrate g).committed = s.committed := (s.arbitrate_busOnly g).device.committed

@[simp] theorem arbitrate_device_settings (g : GroupId) : (s.arbitrate g).settings = s.settings := (s.arbitrate_busOnly g).device.settings

@[simp] theorem arbitrate_mode (g : GroupId) : (s.arbitrate g).mode = s.mode := (s.arbitrate_busOnly g).device.mode

@[simp] theorem arbitrate_straps (g : GroupId) : (s.arbitrate g).straps = s.straps := (s.arbitrate_busOnly g).device.straps

@[simp] theorem arbitrate_flags (g : GroupId) : (s.arbitrate g).flags = s.flags := (s.arbitrate_busOnly g).device.flags

@[simp] theorem arbitrate_enables (g : GroupId) : (s.arbitrate g).enables = s.enables := (s.arbitrate_busOnly g).device.enables

@[simp] theorem arbitrate_counters (g : GroupId) : (s.arbitrate g).counters = s.counters := (s.arbitrate_busOnly g).device.counters

@[simp] theorem arbitrate_snapshot (g : GroupId) : (s.arbitrate g).snapshot = s.snapshot := (s.arbitrate_busOnly g).device.snapshot

@[simp] theorem arbitrate_inReset (g : GroupId) : (s.arbitrate g).inReset = s.inReset := (s.arbitrate_busOnly g).device.inReset

@[simp] theorem arbitrate_ties (g : GroupId) : (s.arbitrate g).ties = s.ties := (s.arbitrate_busOnly g).device.ties

@[simp] theorem arbitrate_pending (g : GroupId) : (s.arbitrate g).pending = s.pending := (s.arbitrate_busOnly g).device.pending

theorem arbitrate_group (g : GroupId) {h : GroupId} (e : h ≠ g) : (s.arbitrate g).group h = s.group h :=
  (s.arbitrate_busOnly g).groups h e

@[simp] theorem arbitrate_profile (g : GroupId) (p : ProfileId) : (s.arbitrate g).profile p = s.profile p := by
  unfold State.profile
  rw [arbitrate_profiles]

@[simp] theorem arbitrate_profileOf (g : GroupId) (j : CageId) : (s.arbitrate g).profileOf j = s.profileOf j := by
  simp [State.profileOf]

theorem startForward_busOnly (g : GroupId) : BusOnly (g) s (s.startForward g) := BusOnly.startForward (.refl g s)

@[simp] theorem startForward_ctx (g : GroupId) (j : CageId) :
    ((s.startForward g).cage j).ctx = (s.cage j).ctx := ((s.startForward_busOnly g).cages j).ctx

@[simp] theorem startForward_qual (g : GroupId) (j : CageId) :
    ((s.startForward g).cage j).qual = (s.cage j).qual := ((s.startForward_busOnly g).cages j).qual

@[simp] theorem startForward_seq (g : GroupId) (j : CageId) :
    ((s.startForward g).cage j).seq = (s.cage j).seq := ((s.startForward_busOnly g).cages j).seq

@[simp] theorem startForward_ops (g : GroupId) (j : CageId) :
    ((s.startForward g).cage j).ops = (s.cage j).ops := ((s.startForward_busOnly g).cages j).ops

@[simp] theorem startForward_light (g : GroupId) (j : CageId) :
    ((s.startForward g).cage j).light = (s.cage j).light := ((s.startForward_busOnly g).cages j).light

@[simp] theorem startForward_ledger (g : GroupId) (j : CageId) :
    ((s.startForward g).cage j).ledger = (s.cage j).ledger := ((s.startForward_busOnly g).cages j).ledger

@[simp] theorem startForward_journal (g : GroupId) (j : CageId) :
    ((s.startForward g).cage j).journal = (s.cage j).journal := ((s.startForward_busOnly g).cages j).journal

@[simp] theorem startForward_standing (g : GroupId) (j : CageId) :
    ((s.startForward g).cage j).standing = (s.cage j).standing := ((s.startForward_busOnly g).cages j).standing

@[simp] theorem startForward_binding (g : GroupId) (j : CageId) :
    ((s.startForward g).cage j).binding = (s.cage j).binding := ((s.startForward_busOnly g).cages j).binding

@[simp] theorem startForward_settings (g : GroupId) (j : CageId) :
    ((s.startForward g).cage j).settings = (s.cage j).settings := ((s.startForward_busOnly g).cages j).settings

@[simp] theorem startForward_events (g : GroupId) (j : CageId) :
    ((s.startForward g).cage j).events = (s.cage j).events := ((s.startForward_busOnly g).cages j).events

@[simp] theorem startForward_control (g : GroupId) (j : CageId) :
    ((s.startForward g).cage j).control = (s.cage j).control := ((s.startForward_busOnly g).cages j).control

@[simp] theorem startForward_mrstOwner (g : GroupId) (j : CageId) :
    ((s.startForward g).cage j).lines.mrstOwner = (s.cage j).lines.mrstOwner := ((s.startForward_busOnly g).cages j).mrstOwner

@[simp] theorem startForward_mlowOwner (g : GroupId) (j : CageId) :
    ((s.startForward g).cage j).lines.mlowOwner = (s.cage j).lines.mlowOwner := ((s.startForward_busOnly g).cages j).mlowOwner

@[simp] theorem startForward_pulse (g : GroupId) (j : CageId) :
    ((s.startForward g).cage j).lines.pulse = (s.cage j).lines.pulse := ((s.startForward_busOnly g).cages j).pulse

@[simp] theorem startForward_profiles (g : GroupId) : (s.startForward g).profiles = s.profiles := (s.startForward_busOnly g).device.profiles

@[simp] theorem startForward_cache (g : GroupId) : (s.startForward g).cache = s.cache := (s.startForward_busOnly g).device.cache

@[simp] theorem startForward_queue (g : GroupId) : (s.startForward g).queue = s.queue := (s.startForward_busOnly g).device.queue

@[simp] theorem startForward_committed (g : GroupId) : (s.startForward g).committed = s.committed := (s.startForward_busOnly g).device.committed

@[simp] theorem startForward_device_settings (g : GroupId) : (s.startForward g).settings = s.settings := (s.startForward_busOnly g).device.settings

@[simp] theorem startForward_mode (g : GroupId) : (s.startForward g).mode = s.mode := (s.startForward_busOnly g).device.mode

@[simp] theorem startForward_straps (g : GroupId) : (s.startForward g).straps = s.straps := (s.startForward_busOnly g).device.straps

@[simp] theorem startForward_flags (g : GroupId) : (s.startForward g).flags = s.flags := (s.startForward_busOnly g).device.flags

@[simp] theorem startForward_enables (g : GroupId) : (s.startForward g).enables = s.enables := (s.startForward_busOnly g).device.enables

@[simp] theorem startForward_counters (g : GroupId) : (s.startForward g).counters = s.counters := (s.startForward_busOnly g).device.counters

@[simp] theorem startForward_snapshot (g : GroupId) : (s.startForward g).snapshot = s.snapshot := (s.startForward_busOnly g).device.snapshot

@[simp] theorem startForward_inReset (g : GroupId) : (s.startForward g).inReset = s.inReset := (s.startForward_busOnly g).device.inReset

@[simp] theorem startForward_ties (g : GroupId) : (s.startForward g).ties = s.ties := (s.startForward_busOnly g).device.ties

@[simp] theorem startForward_pending (g : GroupId) : (s.startForward g).pending = s.pending := (s.startForward_busOnly g).device.pending

theorem startForward_group (g : GroupId) {h : GroupId} (e : h ≠ g) : (s.startForward g).group h = s.group h :=
  (s.startForward_busOnly g).groups h e

@[simp] theorem startForward_profile (g : GroupId) (p : ProfileId) : (s.startForward g).profile p = s.profile p := by
  unfold State.profile
  rw [startForward_profiles]

@[simp] theorem startForward_profileOf (g : GroupId) (j : CageId) : (s.startForward g).profileOf j = s.profileOf j := by
  simp [State.profileOf]

theorem freeBus_busOnly (g : GroupId) : BusOnly (g) s (s.freeBus g) := BusOnly.freeBus (.refl g s)

@[simp] theorem freeBus_ctx (g : GroupId) (j : CageId) :
    ((s.freeBus g).cage j).ctx = (s.cage j).ctx := ((s.freeBus_busOnly g).cages j).ctx

@[simp] theorem freeBus_qual (g : GroupId) (j : CageId) :
    ((s.freeBus g).cage j).qual = (s.cage j).qual := ((s.freeBus_busOnly g).cages j).qual

@[simp] theorem freeBus_seq (g : GroupId) (j : CageId) :
    ((s.freeBus g).cage j).seq = (s.cage j).seq := ((s.freeBus_busOnly g).cages j).seq

@[simp] theorem freeBus_ops (g : GroupId) (j : CageId) :
    ((s.freeBus g).cage j).ops = (s.cage j).ops := ((s.freeBus_busOnly g).cages j).ops

@[simp] theorem freeBus_light (g : GroupId) (j : CageId) :
    ((s.freeBus g).cage j).light = (s.cage j).light := ((s.freeBus_busOnly g).cages j).light

@[simp] theorem freeBus_ledger (g : GroupId) (j : CageId) :
    ((s.freeBus g).cage j).ledger = (s.cage j).ledger := ((s.freeBus_busOnly g).cages j).ledger

@[simp] theorem freeBus_journal (g : GroupId) (j : CageId) :
    ((s.freeBus g).cage j).journal = (s.cage j).journal := ((s.freeBus_busOnly g).cages j).journal

@[simp] theorem freeBus_standing (g : GroupId) (j : CageId) :
    ((s.freeBus g).cage j).standing = (s.cage j).standing := ((s.freeBus_busOnly g).cages j).standing

@[simp] theorem freeBus_binding (g : GroupId) (j : CageId) :
    ((s.freeBus g).cage j).binding = (s.cage j).binding := ((s.freeBus_busOnly g).cages j).binding

@[simp] theorem freeBus_settings (g : GroupId) (j : CageId) :
    ((s.freeBus g).cage j).settings = (s.cage j).settings := ((s.freeBus_busOnly g).cages j).settings

@[simp] theorem freeBus_events (g : GroupId) (j : CageId) :
    ((s.freeBus g).cage j).events = (s.cage j).events := ((s.freeBus_busOnly g).cages j).events

@[simp] theorem freeBus_control (g : GroupId) (j : CageId) :
    ((s.freeBus g).cage j).control = (s.cage j).control := ((s.freeBus_busOnly g).cages j).control

@[simp] theorem freeBus_mrstOwner (g : GroupId) (j : CageId) :
    ((s.freeBus g).cage j).lines.mrstOwner = (s.cage j).lines.mrstOwner := ((s.freeBus_busOnly g).cages j).mrstOwner

@[simp] theorem freeBus_mlowOwner (g : GroupId) (j : CageId) :
    ((s.freeBus g).cage j).lines.mlowOwner = (s.cage j).lines.mlowOwner := ((s.freeBus_busOnly g).cages j).mlowOwner

@[simp] theorem freeBus_pulse (g : GroupId) (j : CageId) :
    ((s.freeBus g).cage j).lines.pulse = (s.cage j).lines.pulse := ((s.freeBus_busOnly g).cages j).pulse

@[simp] theorem freeBus_profiles (g : GroupId) : (s.freeBus g).profiles = s.profiles := (s.freeBus_busOnly g).device.profiles

@[simp] theorem freeBus_cache (g : GroupId) : (s.freeBus g).cache = s.cache := (s.freeBus_busOnly g).device.cache

@[simp] theorem freeBus_queue (g : GroupId) : (s.freeBus g).queue = s.queue := (s.freeBus_busOnly g).device.queue

@[simp] theorem freeBus_committed (g : GroupId) : (s.freeBus g).committed = s.committed := (s.freeBus_busOnly g).device.committed

@[simp] theorem freeBus_device_settings (g : GroupId) : (s.freeBus g).settings = s.settings := (s.freeBus_busOnly g).device.settings

@[simp] theorem freeBus_mode (g : GroupId) : (s.freeBus g).mode = s.mode := (s.freeBus_busOnly g).device.mode

@[simp] theorem freeBus_straps (g : GroupId) : (s.freeBus g).straps = s.straps := (s.freeBus_busOnly g).device.straps

@[simp] theorem freeBus_flags (g : GroupId) : (s.freeBus g).flags = s.flags := (s.freeBus_busOnly g).device.flags

@[simp] theorem freeBus_enables (g : GroupId) : (s.freeBus g).enables = s.enables := (s.freeBus_busOnly g).device.enables

@[simp] theorem freeBus_counters (g : GroupId) : (s.freeBus g).counters = s.counters := (s.freeBus_busOnly g).device.counters

@[simp] theorem freeBus_snapshot (g : GroupId) : (s.freeBus g).snapshot = s.snapshot := (s.freeBus_busOnly g).device.snapshot

@[simp] theorem freeBus_inReset (g : GroupId) : (s.freeBus g).inReset = s.inReset := (s.freeBus_busOnly g).device.inReset

@[simp] theorem freeBus_ties (g : GroupId) : (s.freeBus g).ties = s.ties := (s.freeBus_busOnly g).device.ties

@[simp] theorem freeBus_pending (g : GroupId) : (s.freeBus g).pending = s.pending := (s.freeBus_busOnly g).device.pending

theorem freeBus_group (g : GroupId) {h : GroupId} (e : h ≠ g) : (s.freeBus g).group h = s.group h :=
  (s.freeBus_busOnly g).groups h e

@[simp] theorem freeBus_profile (g : GroupId) (p : ProfileId) : (s.freeBus g).profile p = s.profile p := by
  unfold State.profile
  rw [freeBus_profiles]

@[simp] theorem freeBus_profileOf (g : GroupId) (j : CageId) : (s.freeBus g).profileOf j = s.profileOf j := by
  simp [State.profileOf]

theorem returnBus_busOnly (g : GroupId) : BusOnly (g) s (s.returnBus g) := BusOnly.returnBus (.refl g s)

@[simp] theorem returnBus_ctx (g : GroupId) (j : CageId) :
    ((s.returnBus g).cage j).ctx = (s.cage j).ctx := ((s.returnBus_busOnly g).cages j).ctx

@[simp] theorem returnBus_qual (g : GroupId) (j : CageId) :
    ((s.returnBus g).cage j).qual = (s.cage j).qual := ((s.returnBus_busOnly g).cages j).qual

@[simp] theorem returnBus_seq (g : GroupId) (j : CageId) :
    ((s.returnBus g).cage j).seq = (s.cage j).seq := ((s.returnBus_busOnly g).cages j).seq

@[simp] theorem returnBus_ops (g : GroupId) (j : CageId) :
    ((s.returnBus g).cage j).ops = (s.cage j).ops := ((s.returnBus_busOnly g).cages j).ops

@[simp] theorem returnBus_light (g : GroupId) (j : CageId) :
    ((s.returnBus g).cage j).light = (s.cage j).light := ((s.returnBus_busOnly g).cages j).light

@[simp] theorem returnBus_ledger (g : GroupId) (j : CageId) :
    ((s.returnBus g).cage j).ledger = (s.cage j).ledger := ((s.returnBus_busOnly g).cages j).ledger

@[simp] theorem returnBus_journal (g : GroupId) (j : CageId) :
    ((s.returnBus g).cage j).journal = (s.cage j).journal := ((s.returnBus_busOnly g).cages j).journal

@[simp] theorem returnBus_standing (g : GroupId) (j : CageId) :
    ((s.returnBus g).cage j).standing = (s.cage j).standing := ((s.returnBus_busOnly g).cages j).standing

@[simp] theorem returnBus_binding (g : GroupId) (j : CageId) :
    ((s.returnBus g).cage j).binding = (s.cage j).binding := ((s.returnBus_busOnly g).cages j).binding

@[simp] theorem returnBus_settings (g : GroupId) (j : CageId) :
    ((s.returnBus g).cage j).settings = (s.cage j).settings := ((s.returnBus_busOnly g).cages j).settings

@[simp] theorem returnBus_events (g : GroupId) (j : CageId) :
    ((s.returnBus g).cage j).events = (s.cage j).events := ((s.returnBus_busOnly g).cages j).events

@[simp] theorem returnBus_control (g : GroupId) (j : CageId) :
    ((s.returnBus g).cage j).control = (s.cage j).control := ((s.returnBus_busOnly g).cages j).control

@[simp] theorem returnBus_mrstOwner (g : GroupId) (j : CageId) :
    ((s.returnBus g).cage j).lines.mrstOwner = (s.cage j).lines.mrstOwner := ((s.returnBus_busOnly g).cages j).mrstOwner

@[simp] theorem returnBus_mlowOwner (g : GroupId) (j : CageId) :
    ((s.returnBus g).cage j).lines.mlowOwner = (s.cage j).lines.mlowOwner := ((s.returnBus_busOnly g).cages j).mlowOwner

@[simp] theorem returnBus_pulse (g : GroupId) (j : CageId) :
    ((s.returnBus g).cage j).lines.pulse = (s.cage j).lines.pulse := ((s.returnBus_busOnly g).cages j).pulse

@[simp] theorem returnBus_profiles (g : GroupId) : (s.returnBus g).profiles = s.profiles := (s.returnBus_busOnly g).device.profiles

@[simp] theorem returnBus_cache (g : GroupId) : (s.returnBus g).cache = s.cache := (s.returnBus_busOnly g).device.cache

@[simp] theorem returnBus_queue (g : GroupId) : (s.returnBus g).queue = s.queue := (s.returnBus_busOnly g).device.queue

@[simp] theorem returnBus_committed (g : GroupId) : (s.returnBus g).committed = s.committed := (s.returnBus_busOnly g).device.committed

@[simp] theorem returnBus_device_settings (g : GroupId) : (s.returnBus g).settings = s.settings := (s.returnBus_busOnly g).device.settings

@[simp] theorem returnBus_mode (g : GroupId) : (s.returnBus g).mode = s.mode := (s.returnBus_busOnly g).device.mode

@[simp] theorem returnBus_straps (g : GroupId) : (s.returnBus g).straps = s.straps := (s.returnBus_busOnly g).device.straps

@[simp] theorem returnBus_flags (g : GroupId) : (s.returnBus g).flags = s.flags := (s.returnBus_busOnly g).device.flags

@[simp] theorem returnBus_enables (g : GroupId) : (s.returnBus g).enables = s.enables := (s.returnBus_busOnly g).device.enables

@[simp] theorem returnBus_counters (g : GroupId) : (s.returnBus g).counters = s.counters := (s.returnBus_busOnly g).device.counters

@[simp] theorem returnBus_snapshot (g : GroupId) : (s.returnBus g).snapshot = s.snapshot := (s.returnBus_busOnly g).device.snapshot

@[simp] theorem returnBus_inReset (g : GroupId) : (s.returnBus g).inReset = s.inReset := (s.returnBus_busOnly g).device.inReset

@[simp] theorem returnBus_ties (g : GroupId) : (s.returnBus g).ties = s.ties := (s.returnBus_busOnly g).device.ties

@[simp] theorem returnBus_pending (g : GroupId) : (s.returnBus g).pending = s.pending := (s.returnBus_busOnly g).device.pending

theorem returnBus_group (g : GroupId) {h : GroupId} (e : h ≠ g) : (s.returnBus g).group h = s.group h :=
  (s.returnBus_busOnly g).groups h e

@[simp] theorem returnBus_profile (g : GroupId) (p : ProfileId) : (s.returnBus g).profile p = s.profile p := by
  unfold State.profile
  rw [returnBus_profiles]

@[simp] theorem returnBus_profileOf (g : GroupId) (j : CageId) : (s.returnBus g).profileOf j = s.profileOf j := by
  simp [State.profileOf]

theorem requestBus_busOnly (g : GroupId) (k : CageId) : BusOnly (g) s (s.requestBus g k) := BusOnly.requestBus (.refl g s)

@[simp] theorem requestBus_ctx (g : GroupId) (k : CageId) (j : CageId) :
    ((s.requestBus g k).cage j).ctx = (s.cage j).ctx := ((s.requestBus_busOnly g k).cages j).ctx

@[simp] theorem requestBus_qual (g : GroupId) (k : CageId) (j : CageId) :
    ((s.requestBus g k).cage j).qual = (s.cage j).qual := ((s.requestBus_busOnly g k).cages j).qual

@[simp] theorem requestBus_seq (g : GroupId) (k : CageId) (j : CageId) :
    ((s.requestBus g k).cage j).seq = (s.cage j).seq := ((s.requestBus_busOnly g k).cages j).seq

@[simp] theorem requestBus_ops (g : GroupId) (k : CageId) (j : CageId) :
    ((s.requestBus g k).cage j).ops = (s.cage j).ops := ((s.requestBus_busOnly g k).cages j).ops

@[simp] theorem requestBus_light (g : GroupId) (k : CageId) (j : CageId) :
    ((s.requestBus g k).cage j).light = (s.cage j).light := ((s.requestBus_busOnly g k).cages j).light

@[simp] theorem requestBus_ledger (g : GroupId) (k : CageId) (j : CageId) :
    ((s.requestBus g k).cage j).ledger = (s.cage j).ledger := ((s.requestBus_busOnly g k).cages j).ledger

@[simp] theorem requestBus_journal (g : GroupId) (k : CageId) (j : CageId) :
    ((s.requestBus g k).cage j).journal = (s.cage j).journal := ((s.requestBus_busOnly g k).cages j).journal

@[simp] theorem requestBus_standing (g : GroupId) (k : CageId) (j : CageId) :
    ((s.requestBus g k).cage j).standing = (s.cage j).standing := ((s.requestBus_busOnly g k).cages j).standing

@[simp] theorem requestBus_binding (g : GroupId) (k : CageId) (j : CageId) :
    ((s.requestBus g k).cage j).binding = (s.cage j).binding := ((s.requestBus_busOnly g k).cages j).binding

@[simp] theorem requestBus_settings (g : GroupId) (k : CageId) (j : CageId) :
    ((s.requestBus g k).cage j).settings = (s.cage j).settings := ((s.requestBus_busOnly g k).cages j).settings

@[simp] theorem requestBus_events (g : GroupId) (k : CageId) (j : CageId) :
    ((s.requestBus g k).cage j).events = (s.cage j).events := ((s.requestBus_busOnly g k).cages j).events

@[simp] theorem requestBus_control (g : GroupId) (k : CageId) (j : CageId) :
    ((s.requestBus g k).cage j).control = (s.cage j).control := ((s.requestBus_busOnly g k).cages j).control

@[simp] theorem requestBus_mrstOwner (g : GroupId) (k : CageId) (j : CageId) :
    ((s.requestBus g k).cage j).lines.mrstOwner = (s.cage j).lines.mrstOwner := ((s.requestBus_busOnly g k).cages j).mrstOwner

@[simp] theorem requestBus_mlowOwner (g : GroupId) (k : CageId) (j : CageId) :
    ((s.requestBus g k).cage j).lines.mlowOwner = (s.cage j).lines.mlowOwner := ((s.requestBus_busOnly g k).cages j).mlowOwner

@[simp] theorem requestBus_pulse (g : GroupId) (k : CageId) (j : CageId) :
    ((s.requestBus g k).cage j).lines.pulse = (s.cage j).lines.pulse := ((s.requestBus_busOnly g k).cages j).pulse

@[simp] theorem requestBus_profiles (g : GroupId) (k : CageId) : (s.requestBus g k).profiles = s.profiles := (s.requestBus_busOnly g k).device.profiles

@[simp] theorem requestBus_cache (g : GroupId) (k : CageId) : (s.requestBus g k).cache = s.cache := (s.requestBus_busOnly g k).device.cache

@[simp] theorem requestBus_queue (g : GroupId) (k : CageId) : (s.requestBus g k).queue = s.queue := (s.requestBus_busOnly g k).device.queue

@[simp] theorem requestBus_committed (g : GroupId) (k : CageId) : (s.requestBus g k).committed = s.committed := (s.requestBus_busOnly g k).device.committed

@[simp] theorem requestBus_device_settings (g : GroupId) (k : CageId) : (s.requestBus g k).settings = s.settings := (s.requestBus_busOnly g k).device.settings

@[simp] theorem requestBus_mode (g : GroupId) (k : CageId) : (s.requestBus g k).mode = s.mode := (s.requestBus_busOnly g k).device.mode

@[simp] theorem requestBus_straps (g : GroupId) (k : CageId) : (s.requestBus g k).straps = s.straps := (s.requestBus_busOnly g k).device.straps

@[simp] theorem requestBus_flags (g : GroupId) (k : CageId) : (s.requestBus g k).flags = s.flags := (s.requestBus_busOnly g k).device.flags

@[simp] theorem requestBus_enables (g : GroupId) (k : CageId) : (s.requestBus g k).enables = s.enables := (s.requestBus_busOnly g k).device.enables

@[simp] theorem requestBus_counters (g : GroupId) (k : CageId) : (s.requestBus g k).counters = s.counters := (s.requestBus_busOnly g k).device.counters

@[simp] theorem requestBus_snapshot (g : GroupId) (k : CageId) : (s.requestBus g k).snapshot = s.snapshot := (s.requestBus_busOnly g k).device.snapshot

@[simp] theorem requestBus_inReset (g : GroupId) (k : CageId) : (s.requestBus g k).inReset = s.inReset := (s.requestBus_busOnly g k).device.inReset

@[simp] theorem requestBus_ties (g : GroupId) (k : CageId) : (s.requestBus g k).ties = s.ties := (s.requestBus_busOnly g k).device.ties

@[simp] theorem requestBus_pending (g : GroupId) (k : CageId) : (s.requestBus g k).pending = s.pending := (s.requestBus_busOnly g k).device.pending

theorem requestBus_group (g : GroupId) (k : CageId) {h : GroupId} (e : h ≠ g) : (s.requestBus g k).group h = s.group h :=
  (s.requestBus_busOnly g k).groups h e

@[simp] theorem requestBus_profile (g : GroupId) (k : CageId) (p : ProfileId) : (s.requestBus g k).profile p = s.profile p := by
  unfold State.profile
  rw [requestBus_profiles]

@[simp] theorem requestBus_profileOf (g : GroupId) (k : CageId) (j : CageId) : (s.requestBus g k).profileOf j = s.profileOf j := by
  simp [State.profileOf]

theorem raise_busOnly (k : CageId) (a : Agent) (r : Request) : BusOnly (groupOf k) s (s.raise k a r) := BusOnly.raise (.refl _ s)

@[simp] theorem raise_ctx (k : CageId) (a : Agent) (r : Request) (j : CageId) :
    ((s.raise k a r).cage j).ctx = (s.cage j).ctx := ((s.raise_busOnly k a r).cages j).ctx

@[simp] theorem raise_qual (k : CageId) (a : Agent) (r : Request) (j : CageId) :
    ((s.raise k a r).cage j).qual = (s.cage j).qual := ((s.raise_busOnly k a r).cages j).qual

@[simp] theorem raise_seq (k : CageId) (a : Agent) (r : Request) (j : CageId) :
    ((s.raise k a r).cage j).seq = (s.cage j).seq := ((s.raise_busOnly k a r).cages j).seq

@[simp] theorem raise_ops (k : CageId) (a : Agent) (r : Request) (j : CageId) :
    ((s.raise k a r).cage j).ops = (s.cage j).ops := ((s.raise_busOnly k a r).cages j).ops

@[simp] theorem raise_light (k : CageId) (a : Agent) (r : Request) (j : CageId) :
    ((s.raise k a r).cage j).light = (s.cage j).light := ((s.raise_busOnly k a r).cages j).light

@[simp] theorem raise_ledger (k : CageId) (a : Agent) (r : Request) (j : CageId) :
    ((s.raise k a r).cage j).ledger = (s.cage j).ledger := ((s.raise_busOnly k a r).cages j).ledger

@[simp] theorem raise_journal (k : CageId) (a : Agent) (r : Request) (j : CageId) :
    ((s.raise k a r).cage j).journal = (s.cage j).journal := ((s.raise_busOnly k a r).cages j).journal

@[simp] theorem raise_standing (k : CageId) (a : Agent) (r : Request) (j : CageId) :
    ((s.raise k a r).cage j).standing = (s.cage j).standing := ((s.raise_busOnly k a r).cages j).standing

@[simp] theorem raise_binding (k : CageId) (a : Agent) (r : Request) (j : CageId) :
    ((s.raise k a r).cage j).binding = (s.cage j).binding := ((s.raise_busOnly k a r).cages j).binding

@[simp] theorem raise_settings (k : CageId) (a : Agent) (r : Request) (j : CageId) :
    ((s.raise k a r).cage j).settings = (s.cage j).settings := ((s.raise_busOnly k a r).cages j).settings

@[simp] theorem raise_events (k : CageId) (a : Agent) (r : Request) (j : CageId) :
    ((s.raise k a r).cage j).events = (s.cage j).events := ((s.raise_busOnly k a r).cages j).events

@[simp] theorem raise_control (k : CageId) (a : Agent) (r : Request) (j : CageId) :
    ((s.raise k a r).cage j).control = (s.cage j).control := ((s.raise_busOnly k a r).cages j).control

@[simp] theorem raise_mrstOwner (k : CageId) (a : Agent) (r : Request) (j : CageId) :
    ((s.raise k a r).cage j).lines.mrstOwner = (s.cage j).lines.mrstOwner := ((s.raise_busOnly k a r).cages j).mrstOwner

@[simp] theorem raise_mlowOwner (k : CageId) (a : Agent) (r : Request) (j : CageId) :
    ((s.raise k a r).cage j).lines.mlowOwner = (s.cage j).lines.mlowOwner := ((s.raise_busOnly k a r).cages j).mlowOwner

@[simp] theorem raise_pulse (k : CageId) (a : Agent) (r : Request) (j : CageId) :
    ((s.raise k a r).cage j).lines.pulse = (s.cage j).lines.pulse := ((s.raise_busOnly k a r).cages j).pulse

@[simp] theorem raise_profiles (k : CageId) (a : Agent) (r : Request) : (s.raise k a r).profiles = s.profiles := (s.raise_busOnly k a r).device.profiles

@[simp] theorem raise_cache (k : CageId) (a : Agent) (r : Request) : (s.raise k a r).cache = s.cache := (s.raise_busOnly k a r).device.cache

@[simp] theorem raise_queue (k : CageId) (a : Agent) (r : Request) : (s.raise k a r).queue = s.queue := (s.raise_busOnly k a r).device.queue

@[simp] theorem raise_committed (k : CageId) (a : Agent) (r : Request) : (s.raise k a r).committed = s.committed := (s.raise_busOnly k a r).device.committed

@[simp] theorem raise_device_settings (k : CageId) (a : Agent) (r : Request) : (s.raise k a r).settings = s.settings := (s.raise_busOnly k a r).device.settings

@[simp] theorem raise_mode (k : CageId) (a : Agent) (r : Request) : (s.raise k a r).mode = s.mode := (s.raise_busOnly k a r).device.mode

@[simp] theorem raise_straps (k : CageId) (a : Agent) (r : Request) : (s.raise k a r).straps = s.straps := (s.raise_busOnly k a r).device.straps

@[simp] theorem raise_flags (k : CageId) (a : Agent) (r : Request) : (s.raise k a r).flags = s.flags := (s.raise_busOnly k a r).device.flags

@[simp] theorem raise_enables (k : CageId) (a : Agent) (r : Request) : (s.raise k a r).enables = s.enables := (s.raise_busOnly k a r).device.enables

@[simp] theorem raise_counters (k : CageId) (a : Agent) (r : Request) : (s.raise k a r).counters = s.counters := (s.raise_busOnly k a r).device.counters

@[simp] theorem raise_snapshot (k : CageId) (a : Agent) (r : Request) : (s.raise k a r).snapshot = s.snapshot := (s.raise_busOnly k a r).device.snapshot

@[simp] theorem raise_inReset (k : CageId) (a : Agent) (r : Request) : (s.raise k a r).inReset = s.inReset := (s.raise_busOnly k a r).device.inReset

@[simp] theorem raise_ties (k : CageId) (a : Agent) (r : Request) : (s.raise k a r).ties = s.ties := (s.raise_busOnly k a r).device.ties

@[simp] theorem raise_pending (k : CageId) (a : Agent) (r : Request) : (s.raise k a r).pending = s.pending := (s.raise_busOnly k a r).device.pending

theorem raise_group (k : CageId) (a : Agent) (r : Request) {h : GroupId} (e : h ≠ groupOf k) : (s.raise k a r).group h = s.group h :=
  (s.raise_busOnly k a r).groups h e

@[simp] theorem raise_profile (k : CageId) (a : Agent) (r : Request) (p : ProfileId) : (s.raise k a r).profile p = s.profile p := by
  unfold State.profile
  rw [raise_profiles]

@[simp] theorem raise_profileOf (k : CageId) (a : Agent) (r : Request) (j : CageId) : (s.raise k a r).profileOf j = s.profileOf j := by
  simp [State.profileOf]

theorem withdraw_busOnly (k : CageId) (a : Agent) : BusOnly (groupOf k) s (s.withdraw k a) := BusOnly.withdraw (.refl _ s)

@[simp] theorem withdraw_ctx (k : CageId) (a : Agent) (j : CageId) :
    ((s.withdraw k a).cage j).ctx = (s.cage j).ctx := ((s.withdraw_busOnly k a).cages j).ctx

@[simp] theorem withdraw_qual (k : CageId) (a : Agent) (j : CageId) :
    ((s.withdraw k a).cage j).qual = (s.cage j).qual := ((s.withdraw_busOnly k a).cages j).qual

@[simp] theorem withdraw_seq (k : CageId) (a : Agent) (j : CageId) :
    ((s.withdraw k a).cage j).seq = (s.cage j).seq := ((s.withdraw_busOnly k a).cages j).seq

@[simp] theorem withdraw_ops (k : CageId) (a : Agent) (j : CageId) :
    ((s.withdraw k a).cage j).ops = (s.cage j).ops := ((s.withdraw_busOnly k a).cages j).ops

@[simp] theorem withdraw_light (k : CageId) (a : Agent) (j : CageId) :
    ((s.withdraw k a).cage j).light = (s.cage j).light := ((s.withdraw_busOnly k a).cages j).light

@[simp] theorem withdraw_ledger (k : CageId) (a : Agent) (j : CageId) :
    ((s.withdraw k a).cage j).ledger = (s.cage j).ledger := ((s.withdraw_busOnly k a).cages j).ledger

@[simp] theorem withdraw_journal (k : CageId) (a : Agent) (j : CageId) :
    ((s.withdraw k a).cage j).journal = (s.cage j).journal := ((s.withdraw_busOnly k a).cages j).journal

@[simp] theorem withdraw_standing (k : CageId) (a : Agent) (j : CageId) :
    ((s.withdraw k a).cage j).standing = (s.cage j).standing := ((s.withdraw_busOnly k a).cages j).standing

@[simp] theorem withdraw_binding (k : CageId) (a : Agent) (j : CageId) :
    ((s.withdraw k a).cage j).binding = (s.cage j).binding := ((s.withdraw_busOnly k a).cages j).binding

@[simp] theorem withdraw_settings (k : CageId) (a : Agent) (j : CageId) :
    ((s.withdraw k a).cage j).settings = (s.cage j).settings := ((s.withdraw_busOnly k a).cages j).settings

@[simp] theorem withdraw_events (k : CageId) (a : Agent) (j : CageId) :
    ((s.withdraw k a).cage j).events = (s.cage j).events := ((s.withdraw_busOnly k a).cages j).events

@[simp] theorem withdraw_control (k : CageId) (a : Agent) (j : CageId) :
    ((s.withdraw k a).cage j).control = (s.cage j).control := ((s.withdraw_busOnly k a).cages j).control

@[simp] theorem withdraw_mrstOwner (k : CageId) (a : Agent) (j : CageId) :
    ((s.withdraw k a).cage j).lines.mrstOwner = (s.cage j).lines.mrstOwner := ((s.withdraw_busOnly k a).cages j).mrstOwner

@[simp] theorem withdraw_mlowOwner (k : CageId) (a : Agent) (j : CageId) :
    ((s.withdraw k a).cage j).lines.mlowOwner = (s.cage j).lines.mlowOwner := ((s.withdraw_busOnly k a).cages j).mlowOwner

@[simp] theorem withdraw_pulse (k : CageId) (a : Agent) (j : CageId) :
    ((s.withdraw k a).cage j).lines.pulse = (s.cage j).lines.pulse := ((s.withdraw_busOnly k a).cages j).pulse

@[simp] theorem withdraw_profiles (k : CageId) (a : Agent) : (s.withdraw k a).profiles = s.profiles := (s.withdraw_busOnly k a).device.profiles

@[simp] theorem withdraw_cache (k : CageId) (a : Agent) : (s.withdraw k a).cache = s.cache := (s.withdraw_busOnly k a).device.cache

@[simp] theorem withdraw_queue (k : CageId) (a : Agent) : (s.withdraw k a).queue = s.queue := (s.withdraw_busOnly k a).device.queue

@[simp] theorem withdraw_committed (k : CageId) (a : Agent) : (s.withdraw k a).committed = s.committed := (s.withdraw_busOnly k a).device.committed

@[simp] theorem withdraw_device_settings (k : CageId) (a : Agent) : (s.withdraw k a).settings = s.settings := (s.withdraw_busOnly k a).device.settings

@[simp] theorem withdraw_mode (k : CageId) (a : Agent) : (s.withdraw k a).mode = s.mode := (s.withdraw_busOnly k a).device.mode

@[simp] theorem withdraw_straps (k : CageId) (a : Agent) : (s.withdraw k a).straps = s.straps := (s.withdraw_busOnly k a).device.straps

@[simp] theorem withdraw_flags (k : CageId) (a : Agent) : (s.withdraw k a).flags = s.flags := (s.withdraw_busOnly k a).device.flags

@[simp] theorem withdraw_enables (k : CageId) (a : Agent) : (s.withdraw k a).enables = s.enables := (s.withdraw_busOnly k a).device.enables

@[simp] theorem withdraw_counters (k : CageId) (a : Agent) : (s.withdraw k a).counters = s.counters := (s.withdraw_busOnly k a).device.counters

@[simp] theorem withdraw_snapshot (k : CageId) (a : Agent) : (s.withdraw k a).snapshot = s.snapshot := (s.withdraw_busOnly k a).device.snapshot

@[simp] theorem withdraw_inReset (k : CageId) (a : Agent) : (s.withdraw k a).inReset = s.inReset := (s.withdraw_busOnly k a).device.inReset

@[simp] theorem withdraw_ties (k : CageId) (a : Agent) : (s.withdraw k a).ties = s.ties := (s.withdraw_busOnly k a).device.ties

@[simp] theorem withdraw_pending (k : CageId) (a : Agent) : (s.withdraw k a).pending = s.pending := (s.withdraw_busOnly k a).device.pending

theorem withdraw_group (k : CageId) (a : Agent) {h : GroupId} (e : h ≠ groupOf k) : (s.withdraw k a).group h = s.group h :=
  (s.withdraw_busOnly k a).groups h e

@[simp] theorem withdraw_profile (k : CageId) (a : Agent) (p : ProfileId) : (s.withdraw k a).profile p = s.profile p := by
  unfold State.profile
  rw [withdraw_profiles]

@[simp] theorem withdraw_profileOf (k : CageId) (a : Agent) (j : CageId) : (s.withdraw k a).profileOf j = s.profileOf j := by
  simp [State.profileOf]

theorem closeBurst_busOnly (k : CageId) : BusOnly (groupOf k) s (s.closeBurst k) := BusOnly.closeBurst (.refl _ s)

@[simp] theorem closeBurst_ctx (k : CageId) (j : CageId) :
    ((s.closeBurst k).cage j).ctx = (s.cage j).ctx := ((s.closeBurst_busOnly k).cages j).ctx

@[simp] theorem closeBurst_qual (k : CageId) (j : CageId) :
    ((s.closeBurst k).cage j).qual = (s.cage j).qual := ((s.closeBurst_busOnly k).cages j).qual

@[simp] theorem closeBurst_seq (k : CageId) (j : CageId) :
    ((s.closeBurst k).cage j).seq = (s.cage j).seq := ((s.closeBurst_busOnly k).cages j).seq

@[simp] theorem closeBurst_ops (k : CageId) (j : CageId) :
    ((s.closeBurst k).cage j).ops = (s.cage j).ops := ((s.closeBurst_busOnly k).cages j).ops

@[simp] theorem closeBurst_light (k : CageId) (j : CageId) :
    ((s.closeBurst k).cage j).light = (s.cage j).light := ((s.closeBurst_busOnly k).cages j).light

@[simp] theorem closeBurst_ledger (k : CageId) (j : CageId) :
    ((s.closeBurst k).cage j).ledger = (s.cage j).ledger := ((s.closeBurst_busOnly k).cages j).ledger

@[simp] theorem closeBurst_journal (k : CageId) (j : CageId) :
    ((s.closeBurst k).cage j).journal = (s.cage j).journal := ((s.closeBurst_busOnly k).cages j).journal

@[simp] theorem closeBurst_standing (k : CageId) (j : CageId) :
    ((s.closeBurst k).cage j).standing = (s.cage j).standing := ((s.closeBurst_busOnly k).cages j).standing

@[simp] theorem closeBurst_binding (k : CageId) (j : CageId) :
    ((s.closeBurst k).cage j).binding = (s.cage j).binding := ((s.closeBurst_busOnly k).cages j).binding

@[simp] theorem closeBurst_settings (k : CageId) (j : CageId) :
    ((s.closeBurst k).cage j).settings = (s.cage j).settings := ((s.closeBurst_busOnly k).cages j).settings

@[simp] theorem closeBurst_events (k : CageId) (j : CageId) :
    ((s.closeBurst k).cage j).events = (s.cage j).events := ((s.closeBurst_busOnly k).cages j).events

@[simp] theorem closeBurst_control (k : CageId) (j : CageId) :
    ((s.closeBurst k).cage j).control = (s.cage j).control := ((s.closeBurst_busOnly k).cages j).control

@[simp] theorem closeBurst_mrstOwner (k : CageId) (j : CageId) :
    ((s.closeBurst k).cage j).lines.mrstOwner = (s.cage j).lines.mrstOwner := ((s.closeBurst_busOnly k).cages j).mrstOwner

@[simp] theorem closeBurst_mlowOwner (k : CageId) (j : CageId) :
    ((s.closeBurst k).cage j).lines.mlowOwner = (s.cage j).lines.mlowOwner := ((s.closeBurst_busOnly k).cages j).mlowOwner

@[simp] theorem closeBurst_pulse (k : CageId) (j : CageId) :
    ((s.closeBurst k).cage j).lines.pulse = (s.cage j).lines.pulse := ((s.closeBurst_busOnly k).cages j).pulse

@[simp] theorem closeBurst_profiles (k : CageId) : (s.closeBurst k).profiles = s.profiles := (s.closeBurst_busOnly k).device.profiles

@[simp] theorem closeBurst_cache (k : CageId) : (s.closeBurst k).cache = s.cache := (s.closeBurst_busOnly k).device.cache

@[simp] theorem closeBurst_queue (k : CageId) : (s.closeBurst k).queue = s.queue := (s.closeBurst_busOnly k).device.queue

@[simp] theorem closeBurst_committed (k : CageId) : (s.closeBurst k).committed = s.committed := (s.closeBurst_busOnly k).device.committed

@[simp] theorem closeBurst_device_settings (k : CageId) : (s.closeBurst k).settings = s.settings := (s.closeBurst_busOnly k).device.settings

@[simp] theorem closeBurst_mode (k : CageId) : (s.closeBurst k).mode = s.mode := (s.closeBurst_busOnly k).device.mode

@[simp] theorem closeBurst_straps (k : CageId) : (s.closeBurst k).straps = s.straps := (s.closeBurst_busOnly k).device.straps

@[simp] theorem closeBurst_flags (k : CageId) : (s.closeBurst k).flags = s.flags := (s.closeBurst_busOnly k).device.flags

@[simp] theorem closeBurst_enables (k : CageId) : (s.closeBurst k).enables = s.enables := (s.closeBurst_busOnly k).device.enables

@[simp] theorem closeBurst_counters (k : CageId) : (s.closeBurst k).counters = s.counters := (s.closeBurst_busOnly k).device.counters

@[simp] theorem closeBurst_snapshot (k : CageId) : (s.closeBurst k).snapshot = s.snapshot := (s.closeBurst_busOnly k).device.snapshot

@[simp] theorem closeBurst_inReset (k : CageId) : (s.closeBurst k).inReset = s.inReset := (s.closeBurst_busOnly k).device.inReset

@[simp] theorem closeBurst_ties (k : CageId) : (s.closeBurst k).ties = s.ties := (s.closeBurst_busOnly k).device.ties

@[simp] theorem closeBurst_pending (k : CageId) : (s.closeBurst k).pending = s.pending := (s.closeBurst_busOnly k).device.pending

theorem closeBurst_group (k : CageId) {h : GroupId} (e : h ≠ groupOf k) : (s.closeBurst k).group h = s.group h :=
  (s.closeBurst_busOnly k).groups h e

@[simp] theorem closeBurst_profile (k : CageId) (p : ProfileId) : (s.closeBurst k).profile p = s.profile p := by
  unfold State.profile
  rw [closeBurst_profiles]

@[simp] theorem closeBurst_profileOf (k : CageId) (j : CageId) : (s.closeBurst k).profileOf j = s.profileOf j := by
  simp [State.profileOf]

end State

end Sys2Proof.Machine
end

