-- ==== Sys2Proof/Laws/OneCage.lean ====
section
/-! SUPPORT. The operations of one cage that, besides the cage itself, can only hand its group's bus on (`CageAndBus`), one
lemma per operation; and a request raised is a request that waits, stands or runs (`State.Wants`). -/

namespace Sys2Proof.Machine

namespace CageAndBus

variable {k : CageId} {z s : State}

theorem onSeq {f : Sequencer → Sequencer} (a : CageAndBus k z s) : CageAndBus k z (s.onSeq k f) := a.onCage

theorem onOps {f : Operations → Operations} (a : CageAndBus k z s) : CageAndBus k z (s.onOps k f) := a.onCage

theorem onCtx {f : Context → Context} (a : CageAndBus k z s) : CageAndBus k z (s.onCtx k f) := a.onCage

theorem onJournal {f : Journal → Journal} (a : CageAndBus k z s) : CageAndBus k z (s.onJournal k f) :=
  a.onCage

theorem onLight {f : LightMonitor → LightMonitor} (a : CageAndBus k z s) : CageAndBus k z (s.onLight k f) :=
  a.onCage

theorem latch {f : CageFlag} (a : CageAndBus k z s) : CageAndBus k z (s.latch k f) := a.onCage

theorem count {i : CageCounter} (a : CageAndBus k z s) : CageAndBus k z (s.count k i) := a.onCage

theorem forgetBelief (a : CageAndBus k z s) : CageAndBus k z (s.forgetBelief k) := by
  unfold State.forgetBelief
  exact a.onCtx

theorem onTransfer {f : Transfer → Transfer} (a : CageAndBus k z s) :
    CageAndBus k z (s.onTransfer (groupOf k) f) := a.onGroup

theorem setHold {x : Hold} (a : CageAndBus k z s) : CageAndBus k z (s.setHold (groupOf k) x) := a.onTransfer

theorem answerOn {p : Path} (a : CageAndBus k z s) : CageAndBus k z (s.answerOn (groupOf k) p) :=
  a.onTransfer.onGroup (f := fun x => { x with up := { x.up with answer := p.addressAnswer } })

theorem returnBus (a : CageAndBus k z s) : CageAndBus k z (s.returnBus (groupOf k)) :=
  a.bus (BusOnly.returnBus (.refl _ s))

theorem freeBus (a : CageAndBus k z s) : CageAndBus k z (s.freeBus (groupOf k)) :=
  a.bus (BusOnly.freeBus (.refl _ s))

theorem losePage (a : CageAndBus k z s) : CageAndBus k z (s.losePage k) := by
  unfold State.losePage
  dsimp only
  have e {f : Group → Group} : CageAndBus k z ((s.forgetBelief k).onGroup (groupOf k) f) :=
    a.forgetBelief.onGroup
  split
  · split
    · exact .ite e.setHold e
    · exact e
  · exact e

theorem changeSelects (a : CageAndBus k z s) : CageAndBus k z (s.changeSelects k) := a.losePage.onGroup

theorem concludeDown (a : CageAndBus k z s) : CageAndBus k z (s.concludeDown (groupOf k) k) := by
  unfold State.concludeDown
  split
  · exact a.onCtx.onTransfer
  · exact a

theorem endDown (a : CageAndBus k z s) : CageAndBus k z (s.endDown (groupOf k) k) := by
  unfold State.endDown State.select
  exact a.concludeDown.onGroup

theorem cutNow {x : Transfer} {p : Path} (a : CageAndBus k z s) :
    CageAndBus k z (s.cutNow (groupOf k) k x p) := by
  unfold State.cutNow
  dsimp only
  have e : CageAndBus k z (if x.relay = .live then s.endDown (groupOf k) k else s) := .ite a.endDown a
  exact (CageAndBus.ite e.onGroup e).onTransfer.returnBus

theorem cutOwner (a : CageAndBus k z s) : CageAndBus k z (s.cutOwner (groupOf k) k) := by
  unfold State.cutOwner
  split
  · exact a.returnBus
  · dsimp only
    split
    · exact .ite a.cutNow a.returnBus
    · exact a.answerOn.returnBus
    · exact a.answerOn.returnBus
    all_goals exact a.onTransfer

theorem answerWaiting (a : CageAndBus k z s) : CageAndBus k z (s.answerWaiting (groupOf k) k) := by
  unfold State.answerWaiting
  split
  · refine .ite ?_ a
    split
    · exact (a.onGroup (f := fun x => { x with waiting := none })).answerOn
    · exact a.onGroup
  · exact a

theorem leaveService (a : CageAndBus k z s) : CageAndBus k z (s.leaveService k) := by
  unfold State.leaveService
  dsimp only
  have e := a.answerWaiting
  split
  · exact .ite e.cutOwner e
  · exact e

theorem unstall (a : CageAndBus k z s) : CageAndBus k z (s.unstall k) := by
  unfold State.unstall
  dsimp only
  have e {f : Group → Group} : CageAndBus k z (s.onGroup (groupOf k) f) := a.onGroup
  split
  · exact .ite (.ite e.freeBus e.onGroup) a
  · exact .ite e a
  · exact a

theorem abortBurst (a : CageAndBus k z s) : CageAndBus k z (s.abortBurst k) := by
  unfold State.abortBurst State.setBurst
  split
  · exact a
  · exact .ite a.forgetBelief.onGroup a.forgetBelief.closeBurst

theorem setDim {b : Bool} (a : CageAndBus k z s) : CageAndBus k z (s.setDim k b) := .ite a a.onSeq.latch

theorem endSample (a : CageAndBus k z s) : CageAndBus k z (s.endSample k) := a.onLight

theorem raiseSample (a : CageAndBus k z s) : CageAndBus k z (s.raiseSample k) := by
  unfold State.raiseSample
  dsimp only
  split
  · exact .ite a.endSample a.onLight.raise
  · exact a.endSample

theorem endLight (a : CageAndBus k z s) : CageAndBus k z (s.endLight k) := a.onLight.withdraw

theorem beginVerify (a : CageAndBus k z s) : CageAndBus k z (s.beginVerify k) := a.onLight.raiseSample

theorem beginMonitor {b : Bool} (a : CageAndBus k z s) : CageAndBus k z (s.beginMonitor k b) := a.onLight

theorem endOps (a : CageAndBus k z s) : CageAndBus k z (s.endOps k) := a.onCage.withdraw

theorem reveal (a : CageAndBus k z s) : CageAndBus k z (s.reveal k) := .ite a.onSeq.latch a

theorem enterHeld {x : HoldReason} (a : CageAndBus k z s) : CageAndBus k z (s.enterHeld k x) := by
  unfold State.enterHeld
  exact a.endOps.endLight.onCage.reveal.onCage

theorem startRecovery {x : RecoveryKind} (a : CageAndBus k z s) : CageAndBus k z (s.startRecovery k x) := by
  unfold State.startRecovery
  exact a.setDim.onCage

theorem raisePoll (a : CageAndBus k z s) : CageAndBus k z (s.raisePoll k) := .ite a.onOps.raise a.onOps

theorem endPolling (a : CageAndBus k z s) : CageAndBus k z (s.endPolling k) := a.onOps.withdraw

theorem beginWait {x y : WaitKind} {n : Nat} (a : CageAndBus k z s) :
    CageAndBus k z (s.beginWait k x y n) := by
  unfold State.beginWait
  exact .ite a.onSeq.raisePoll a.onSeq

theorem beginBootWait (a : CageAndBus k z s) : CageAndBus k z (s.beginBootWait k) := .ite a.beginWait a

theorem enterBooting (a : CageAndBus k z s) : CageAndBus k z (s.enterBooting k) := a.onSeq.beginBootWait

theorem enterRamping (a : CageAndBus k z s) : CageAndBus k z (s.enterRamping k) := a.onSeq.beginWait

theorem endWait (a : CageAndBus k z s) : CageAndBus k z (s.endWait k) := a.onSeq.endPolling

/-! ## Replay -/

theorem onCursor {f : Cursor → Cursor} (a : CageAndBus k z s) : CageAndBus k z (s.onCursor k f) := a.onOps

theorem raiseRun (a : CageAndBus k z s) : CageAndBus k z (s.raiseRun k) := by
  unfold State.raiseRun
  dsimp only
  split
  · exact a.onCursor.raise
  · exact a

theorem beginRun (a : CageAndBus k z s) : CageAndBus k z (s.beginRun k) := by
  unfold State.beginRun
  dsimp only
  split
  · exact a.onCursor.raiseRun
  · exact a

theorem raiseReadBack (a : CageAndBus k z s) : CageAndBus k z (s.raiseReadBack k) := by
  unfold State.raiseReadBack
  split
  · exact a.onCursor.raise
  · exact a

theorem startRecord {i : Nat} {u : List Run} (a : CageAndBus k z s) :
    CageAndBus k z (s.startRecord k i u) := a.onJournal.onCursor.beginRun

theorem walkRecords (l : List Nat) (a : CageAndBus k z s) : CageAndBus k z (s.walkRecords k l).1 := by
  induction l generalizing s with
  | nil => exact a
  | cons i l ih =>
    unfold State.walkRecords
    split
    · exact a
    · split
      · split
        · exact ih a.onCage
        · exact a.startRecord
      · exact ih a

theorem finishReplay (a : CageAndBus k z s) : CageAndBus k z (s.finishReplay k) :=
  .ite a.onCursor.onSeq.beginVerify a.onCursor.onSeq

theorem runPass (a : CageAndBus k z s) : CageAndBus k z (s.runPass k) := by
  have e := CageAndBus.walkRecords (((s.beginPass k).cage k).positionsFrom 0)
    (a.onCursor (f := fun x => { x with position := some 0, passes := min 255 (x.passes + 1) }))
  unfold State.runPass
  dsimp only
  split <;> rename_i heq <;> rw [State.beginPass] at heq <;> rw [State.beginPass, heq] at e
  · exact e
  · exact e.finishReplay

theorem goOn {i : Nat} (a : CageAndBus k z s) : CageAndBus k z (s.goOn k i) := by
  have e := a.walkRecords ((s.cage k).positionsFrom i)
  unfold State.goOn
  split <;> rename_i heq <;> rw [heq] at e
  · exact e
  · exact .ite e.runPass e.finishReplay

theorem startReplay {b : Bool} (a : CageAndBus k z s) : CageAndBus k z (s.startReplay k b) := by
  unfold State.startReplay
  dsimp only
  have e := a.onCursor (f := fun _ => { Cursor.reset with resumed := b })
  exact .ite e.finishReplay (.ite e.onCursor.goOn (.ite e.enterHeld e.onJournal.onCursor.goOn))

theorem enterReplaying {b : Bool} (a : CageAndBus k z s) : CageAndBus k z (s.enterReplaying k b) :=
  a.onSeq.startReplay

theorem settleOver (a : CageAndBus k z s) : CageAndBus k z (s.settleOver k) := by
  unfold State.settleOver
  split
  · exact a.onCursor.goOn
  · exact a

/-! ## Service -/

theorem departService {x : RecoveryKind} (a : CageAndBus k z s) : CageAndBus k z (s.departService k x) :=
  a.endOps.endLight.startRecovery.onSeq

theorem recoverFromService {x : RecoveryKind} (a : CageAndBus k z s) :
    CageAndBus k z (s.recoverFromService k x) := a.departService.beginBootWait.leaveService

theorem startProbeTimer (a : CageAndBus k z s) : CageAndBus k z (s.startProbeTimer k) := a.onSeq

theorem beginServing {b : Bool} (a : CageAndBus k z s) : CageAndBus k z (s.beginServing k b) :=
  a.onSeq.startProbeTimer.beginMonitor

end CageAndBus

/-! ## Requests -/

/-- R22: the arbiter leaves a request waiting, or hands it the bus. -/
theorem State.arbitrate_wants {s : State} {k : CageId} {a : Agent} {r : Request}
    (h : (a, r) ∈ (s.cage k).slotQueue ∨ (s.cage k).slot = .requested a r) :
    (s.arbitrate (groupOf k)).Wants k a r := by
  have keep : s.Wants k a r := h.elim .inl fun e => .inr (.inl e)
  have host {f : Group → Group} : ((s.onGroup (groupOf k) f).startForward (groupOf k)).Wants k a r := by
    have e : ((s.onGroup (groupOf k) f).startForward (groupOf k)).cage k = s.cage k := by
      unfold State.startForward
      split
      · rfl
      · dsimp only
        split
        · split <;> rfl
        · rfl
    unfold State.Wants
    rw [e]
    exact h.elim .inl fun e => .inr (.inl e)
  unfold State.arbitrate
  split
  · split
    · exact host
    · split
      · rename_i j b q hn
        have hq : (s.cage j).slot = .requested b q := by
          unfold State.nextRequest at hn
          obtain ⟨n, -, hm⟩ := List.exists_of_findSome?_eq_some hn
          rcases hs : (s.cage (cageAt (groupOf k) n)).slot with _ | ⟨c, p⟩ | _ <;>
            simp only [hs, Slot.request?, Option.map_none, Option.map_some, reduceCtorEq,
              Option.some.injEq, Prod.mk.injEq] at hm
          obtain ⟨rfl, rfl, rfl⟩ := hm
          exact hs
        have burst : ∃ x, ((s.beginBurst (groupOf k) j b q).group (groupOf k)).burst = some x ∧
            x.cage = j ∧ x.agent = b ∧ x.request = q := by
          unfold State.beginBurst
          dsimp only
          split <;> simp [State.startData, State.arm, State.setBurst]
        have cage : (s.beginBurst (groupOf k) j b q).cage k =
            (s.onCage j fun c => { c with slot := .running }).cage k := by
          unfold State.beginBurst
          dsimp only
          split <;> rfl
        by_cases e : k = j
        · subst e
          rcases h with m | m
          · refine .inl ?_
            rw [cage, State.cage_onCage_self]
            exact m
          · rw [m] at hq
            injection hq with e1 e2
            subst e1 e2
            exact .inr (.inr burst)
        · unfold State.Wants
          rw [cage, State.cage_onCage_ne s e]
          exact h.elim .inl fun e => .inr (.inl e)
      · exact keep
  · exact keep

/-- R21: a request raised waits for the slot, fills it, or is handed the bus. -/
theorem State.raise_wants (s : State) (k : CageId) (a : Agent) (r : Request) :
    (s.raise k a r).Wants k a r := by
  refine State.arbitrate_wants ?_
  rw [State.cage_onCage_self]
  change (a, r) ∈ (Cage.fillSlot _).slotQueue ∨ (Cage.fillSlot _).slot = _
  unfold Cage.fillSlot
  split
  · rename_i b q rest _ hq
    have hq : (s.cage k).slotQueue ++ [(a, r)] = (b, q) :: rest := hq
    have m : (a, r) ∈ (b, q) :: rest := hq ▸ List.mem_append_right _ (List.mem_singleton_self _)
    rcases List.mem_cons.1 m with e | e
    · injection e with e1 e2
      subst e1 e2
      exact .inr rfl
    · exact .inl e
  · exact .inl (List.mem_append_right _ (List.mem_singleton_self _))

theorem State.Wants.driveAlert {s : State} {k : CageId} {a : Agent} {r : Request} (h : s.Wants k a r) :
    s.driveAlert.Wants k a r := h

end Sys2Proof.Machine
end

