-- ==== Sys2Proof/Laws/Steps.lean ====
section
/-! SUPPORT. How a relation that every primitive update keeps is carried to every step, and the two reset rows. -/

namespace Sys2Proof.Machine

/-- A timer is due exactly when it has expired. -/
theorem isDue_iff_expired (y : Option Timer) : isDue y = true ↔ Expired y := by
  cases y <;> simp [isDue, Expired, Timer.due]

/-- One tick of a timer that may be stopped. -/
theorem tickTimer_eq_later (y : Option Timer) : tickTimer y = later y := rfl

/-- The selects a burst writes are those its profile needs. -/
theorem selectWrites_eq_neededSelects (p : Profile) (belief : Option Belief) (bank page : Byte) :
    selectWrites p.bankSelect p.pageSelect belief bank page = p.neededSelects belief bank page := rfl

/-- While the host's transfer has a byte unanswered on its bus, that byte is the one its host is held for. -/
theorem wire_of_host {s : State} {g : GroupId} {c k : CageId} {x : Transfer}
    (o : (s.group g).owner = .host c false) (w : (s.group g).down.wait.isSome = true)
    (e : s.current g = some (k, x)) : s.wire g = x.onWire s.straps.moduleAddress := by
  obtain ⟨y, h⟩ := Option.isSome_iff_exists.mp w
  simp [State.wire, o, h, e]

/-- While a burst has a byte unanswered on its bus, that byte is the first of its transfer in progress. -/
theorem wire_of_burst {s : State} {g : GroupId} {c : CageId} {b : Burst}
    (o : (s.group g).owner = .burst c) (w : (s.group g).down.wait.isSome = true)
    (e : (s.group g).burst = some b) :
    s.wire g = b.job.current.head?.map (·.onWire s.straps.moduleAddress) := by
  obtain ⟨y, h⟩ := Option.isSome_iff_exists.mp w
  simp [State.wire, o, h, e]

/-- The reset rows put the part in its start-up state. -/
theorem exec_reset_row {c : Instr} {s t : State} (a : isReset c = true) (e : exec c s = .next t) :
    ∃ st r p q, t = { State.startUp st with inReset := r, ties := p, pending := q } := by
  cases c <;> simp only [isReset, reduceCtorEq] at a
  all_goals
    dsimp only [exec, execResetNAssertion, execStartUp] at e
    injection e with e
    subst e
  · exact ⟨_, _, _, _, rfl⟩
  · exact ⟨_, false, _, _, rfl⟩

/-- A property that every primitive update keeps, that the start-up state has, and that a tick and the queue of commands
keep, is kept by every step. -/
theorem step_keeps {I : State → Prop} (h : ∀ k, Closed k fun s t => I s → I t)
    (start : ∀ st r n q, I { State.startUp st with inReset := r, ties := n, pending := q })
    (queue : ∀ s q, I s → I { s with pending := q }) (tick : ∀ s, I s → I s.tick) {s t : State}
    (i : I s) (e : step s = .next t) : I t := by
  have run : ∀ c s t, I s → exec c s = .next t → I t := by
    intro c s t i e
    rcases a : isReset c with _ | _
    · exact Closed.execAny h a e i
    · obtain ⟨st, r, n, q, rfl⟩ := exec_reset_row a e
      exact start st r n q
  unfold step at e
  split at e
  · exact run _ _ _ (queue _ _ i) e
  · split at e
    · exact run _ _ _ i e
    · injection e with e
      subst e
      unfold State.idle
      split
      · exact i
      · exact tick _ i

theorem State.setCharge_cages (s : State) (k : CageId) (x : Nat) (g : Bool) :
    (s.setCharge k x g).cages =
      (s.onCage k fun c => { c with ledger := { c.ledger with charge := x, grant := g } }).cages := by
  unfold State.setCharge State.judgeOver
  dsimp only
  split <;> rfl

theorem State.cage_startUp (st : Straps) (r : Bool) (n : Nat) (q : List Instr) (j : CageId) :
    ({ State.startUp st with inReset := r, ties := n, pending := q } : State).cage j = Cage.reset := by
  simp [State.cage, State.startUp]

theorem State.cage_tick (s : State) (j : CageId) : s.tick.cage j = (s.cage j).tick := by
  simp [State.cage, State.tick]

theorem State.group_tick (s : State) (g : GroupId) : s.tick.group g = (s.group g).tick := by
  simp [State.group, State.tick]

/-- A tick leaves everything of the device but the cages, the groups and ALERT. -/
theorem SameDevice.tick (s : State) : SameDevice s s.tick := by
  constructor <;> simp only [State.tick]

/-- A sum over the cages changes by what one update changes of it. -/
theorem State.sum_onCage {F : Cage → Nat} (d : ∀ c : Cage, F c.driveLines = F c) (s : State) (k : CageId)
    (f : Cage → Cage) :
    ∑ j, F ((s.onCage k f).cage j) + F (s.cage k) = ∑ j, F (s.cage j) + F (f (s.cage k)) := by
  have e : ∀ j, F ((s.onCage k f).cage j) = if j = k then F (f (s.cage k)) else F (s.cage j) := by
    intro j
    rw [State.cage_onCage]
    split <;> simp_all
  have r : ∑ x ∈ Finset.univ.erase k, (if x = k then F (f (s.cage k)) else F (s.cage x)) =
      ∑ x ∈ Finset.univ.erase k, F (s.cage x) :=
    Finset.sum_congr rfl fun x hx => if_neg (Finset.ne_of_mem_erase hx)
  rw [Fintype.sum_congr _ _ e, ← Finset.add_sum_erase _ _ (Finset.mem_univ k),
    ← Finset.add_sum_erase (a := k) _ (fun j => F (s.cage j)) (Finset.mem_univ k), r]
  simp only [if_true]
  omega

theorem Moves.charge_eq {c d : Cage} (m : Moves c d) : d.ledger.charge = c.ledger.charge := by
  induction m with
  | keep _ e _ => exact e
  | count => rfl
  | snapshot => rfl
  | trans _ _ a b => exact b.trans a

theorem Moves.journal_le {c d : Cage} (m : Moves c d) :
    d.journal.list.length ≤ c.journal.list.length := by
  induction m with
  | keep _ _ e => exact e
  | count => exact le_rfl
  | snapshot => exact le_rfl
  | trans _ _ a b => exact b.trans a

end Sys2Proof.Machine
end

