-- ==== Sys2Proof/Laws/Effects.lean ====
section
/-! SUPPORT. What each shared operation of one cage does to that cage, said once: the cage afterwards is the cage before
under a plain function, but for its request slot and the levels of its lines. -/

namespace Sys2Proof.Machine

/-! ## The functions of a cage -/

/-- R21, R108: the operation in flight ends. -/
def Cage.endOps (c : Cage) : Cage :=
  { c with
    ops := Operations.reset
    journal := { c.journal with target := none }
    seq := { c.seq with waitTimer := none, probeTimer := none, serveCheck := false } }

/-- R164, R166: the Light Monitor is IDLE. -/
def Cage.endLight (c : Cage) : Cage :=
  { c with
    light := { c.light with activity := .idle, sampleTimer := none, lightTimeout := none, sample := none } }

/-- R114. -/
def Cage.reveal (c : Cage) (ms : Nat) : Cage :=
  if c.seq.concealed then
    { c with
      seq :=
        { c.seq with
          concealed := false, concealTimer := none
          revealTimer := some { duration := ms, elapsed := 0 } } }.latch .revealed
  else c

/-- R170. -/
def Cage.setDim (c : Cage) (b : Bool) : Cage :=
  if c.seq.dim = b then c else { c with seq := { c.seq with dim := b } }.latch .light

/-- R98, R113: a recovery begins. -/
def Cage.startRecovery (c : Cage) (kind : RecoveryKind) (hide : Bool) : Cage :=
  let d := c.setDim false
  { d with
    seq :=
      { d.seq with
        recovery := some kind
        clock := some 0
        holdReason := .none
        concealed := hide
        concealTimer :=
          if hide then some { duration := c.settings.concealLimit * 1000, elapsed := 0 } else none } }

/-- R108: the cage enters HELD. -/
def Cage.hold (c : Cage) (reason : HoldReason) (ms : Nat) : Cage :=
  let d := c.endOps.endLight.endRecovery
  (({ d with
      seq := { d.seq with state := .held, holdReason := reason }
      standing := if c.seq.identified then c.standing else .unmatched }.reveal ms).latch .held).count .holds

namespace State

variable (s : State) (k : CageId)

theorem endOps_cage : SameButSlot (s.cage k).endOps ((s.endOps k).cage k) := by
  constructor <;> simp [State.endOps, Cage.endOps]

theorem endLight_cage : SameButSlot (s.cage k).endLight ((s.endLight k).cage k) := by
  constructor <;> simp [State.endLight, Cage.endLight]

theorem reveal_cage : SameButSlot ((s.cage k).reveal (s.settings.revealMinimum * 10)) ((s.reveal k).cage k) := by
  unfold State.reveal Cage.reveal
  split
  · constructor <;> simp [Timer.start, Cage.latch]
  · exact .refl _

theorem setDim_cage (b : Bool) : SameButSlot ((s.cage k).setDim b) ((s.setDim k b).cage k) := by
  unfold State.setDim Cage.setDim
  split
  · exact .refl _
  · constructor <;> simp [Cage.latch]

theorem startRecovery_cage (kind : RecoveryKind) :
    SameButSlot ((s.cage k).startRecovery kind (s.conceals k)) ((s.startRecovery k kind).cage k) := by
  unfold State.startRecovery State.setDim Cage.startRecovery Cage.setDim
  split
  · constructor <;> simp [Timer.start]
  · constructor <;> simp [Timer.start, Cage.latch]

theorem enterHeld_cage (reason : HoldReason) :
    SameButSlot ((s.cage k).hold reason (s.settings.revealMinimum * 10)) ((s.enterHeld k reason).cage k) := by
  unfold State.enterHeld State.reveal Cage.hold Cage.reveal
  rcases hr : (s.cage k).seq.recovery with _ | r <;> rcases hc : (s.cage k).seq.concealed with _ | _ <;>
    constructor <;>
    simp [State.endOps, State.endLight, Cage.endOps, Cage.endLight, Cage.endRecovery, Cage.latch, Cage.count,
      Cage.countN, Timer.start, hr, hc]

end State

/-! ## The levels of the lines -/

theorem Cage.lines_driveLines (c : Cage) : c.driveLines.driveLines.lines = c.driveLines.lines := by
  unfold Cage.driveLines
  simp only [Cage.mrstEngine, Cage.mlowEngine, Cage.hpdLevel, Cage.hirqLevel]
  cases c.lines.mrstOwner <;> cases c.lines.mlowOwner <;> simp

theorem Cage.lines_fillSlot (c : Cage) : c.fillSlot.driveLines.lines = c.driveLines.lines := by
  unfold Cage.fillSlot
  split <;> rfl

/-- The host's address byte goes on the bus; no cage changes. -/
theorem State.startForward_cages (s : State) (g : GroupId) : (s.startForward g).cages = s.cages := by
  unfold State.startForward
  split
  · rfl
  · dsimp only
    split
    · split <;> rfl
    · rfl

/-- A cage whose lines stand at their levels keeps them while the arbiter chooses. -/
theorem State.arbitrate_lines (s : State) (g : GroupId) (j : CageId)
    (h : (s.cage j).driveLines.lines = (s.cage j).lines) : ((s.arbitrate g).cage j).lines = (s.cage j).lines := by
  unfold State.arbitrate
  split
  · split
    · rw [State.cage_congr (State.startForward_cages _ _)]
      rfl
    · split
      · rename_i k a q _
        have e : (s.beginBurst g k a q).cage j = (s.onCage k fun c => { c with slot := .running }).cage j := by
          unfold State.beginBurst
          dsimp only
          split <;> rfl
        rw [e, State.cage_onCage]
        split
        · rename_i hj
          subst hj
          exact h
        · rfl
      · rfl
  · rfl

/-- A request raised leaves the levels of the lines, where they stand at their levels. -/
theorem State.raise_lines (s : State) (k : CageId) (a : Agent) (r : Request)
    (h : (s.cage k).driveLines.lines = (s.cage k).lines) : ((s.raise k a r).cage k).lines = (s.cage k).lines := by
  unfold State.raise
  rw [State.arbitrate_lines]
  · rw [State.cage_onCage_self, Cage.lines_fillSlot]
    exact h
  · rw [State.cage_onCage_self, Cage.lines_driveLines]

/-! ## Charges -/

/-- R145, R146: a charge changes the ledger of its cage and committed; it may latch OVERCOMMIT. -/
theorem State.setCharge_device (s : State) (k : CageId) (x : Nat) (b : Bool) :
    SameDevice { s with flags := (s.setCharge k x b).flags, committed := (s.setCharge k x b).committed }
      (s.setCharge k x b) := by
  unfold State.setCharge State.judgeOver
  dsimp only
  split <;> constructor <;> rfl

theorem State.setCharge_committed (s : State) (k : CageId) (x : Nat) (b : Bool) :
    (s.setCharge k x b).committed = s.committed - (s.cage k).ledger.charge + x := by
  unfold State.setCharge State.judgeOver
  dsimp only
  split <;> rfl

theorem State.setCharge_groups (s : State) (k : CageId) (x : Nat) (b : Bool) :
    (s.setCharge k x b).groups = s.groups := by
  unfold State.setCharge State.judgeOver
  dsimp only
  split <;> rfl

theorem State.setCharge_cage (s : State) (k : CageId) (x : Nat) (b : Bool) :
    (s.setCharge k x b).cage k =
      Cage.driveLines { s.cage k with ledger := { (s.cage k).ledger with charge := x, grant := b } } := by
  rw [State.cage_congr (State.setCharge_cages ..), State.cage_onCage_self]

theorem State.setCharge_others (s : State) {j k : CageId} (h : j ≠ k) (x : Nat) (b : Bool) :
    (s.setCharge k x b).cage j = s.cage j := by
  rw [State.cage_congr (State.setCharge_cages ..), State.cage_onCage_ne _ h]

/-! ## Waits -/

/-- R100: the boot wait sets the wait timer and may begin polling. -/
theorem State.beginBootWait_cage (s : State) (k : CageId) :
    ∃ w p, SameButSlot
      { s.cage k with
        seq := { (s.cage k).seq with waitTimer := w }, ops := { (s.cage k).ops with polling := p } }
      ((s.beginBootWait k).cage k) := by
  refine ⟨((s.beginBootWait k).cage k).seq.waitTimer, ((s.beginBootWait k).cage k).ops.polling, ?_⟩
  unfold State.beginBootWait State.beginWait State.raisePoll
  dsimp only
  split
  · split
    · split
      · constructor <;> simp
      · constructor <;> simp
    · constructor <;> simp
  · constructor <;> simp

/-- R100: the cage enters BOOTING. -/
theorem State.enterBooting_cage (s : State) (k : CageId) :
    ∃ w p, SameButSlot
      { s.cage k with
        seq := { (s.cage k).seq with state := .booting, verified := false, waitTimer := w }
        ops := { (s.cage k).ops with polling := p } }
      ((s.enterBooting k).cage k) := by
  obtain ⟨w, p, h⟩ := (s.onSeq k fun q => { q with state := .booting, verified := false }).beginBootWait_cage k
  refine ⟨w, p, ?_⟩
  simp only [State.cage_onSeq_self] at h
  constructor
  · exact h.ctx
  · exact h.qual
  · exact h.seq
  · exact h.ops
  · exact h.light
  · exact h.ledger
  · exact h.journal
  · exact h.standing
  · exact h.binding
  · exact h.settings
  · exact h.events
  · exact h.control
  · exact h.mrstOwner
  · exact h.mlowOwner
  · exact h.pulse

/-! ## Leaving service -/

/-- Of cage `k` only the belief, the request slot and the levels of the lines may have changed. -/
def BeliefOnly (k : CageId) (s t : State) : Prop :=
  ∃ b, ((s.cage k).ctx.belief = none → b = none) ∧
    SameButSlot { s.cage k with ctx := { (s.cage k).ctx with belief := b } } (t.cage k)

namespace BeliefOnly

variable {k : CageId} {g : GroupId} {z s : State}

theorem refl (k : CageId) (s : State) : BeliefOnly k s s := ⟨(s.cage k).ctx.belief, id, .refl _⟩

theorem bus {t : State} (a : BeliefOnly k z s) (b : BusOnly g s t) : BeliefOnly k z t :=
  let ⟨x, n, h⟩ := a
  ⟨x, n, h.trans (b.cages k)⟩

theorem onGroup {f : Group → Group} (a : BeliefOnly k z s) : BeliefOnly k z (s.onGroup g f) := a

theorem onTransfer {f : Transfer → Transfer} (a : BeliefOnly k z s) : BeliefOnly k z (s.onTransfer g f) := a

theorem answerOn {p : Path} (a : BeliefOnly k z s) : BeliefOnly k z (s.answerOn g p) := a

theorem returnBus (a : BeliefOnly k z s) : BeliefOnly k z (s.returnBus g) := a.bus (.returnBus (.refl g s))

theorem freeBus (a : BeliefOnly k z s) : BeliefOnly k z (s.freeBus g) := a.bus (.freeBus (.refl g s))

theorem setBelief {f : Option Belief → Option Belief} (a : BeliefOnly k z s) (e : f none = none) :
    BeliefOnly k z (s.onCtx k fun x => { x with belief := f x.belief }) := by
  obtain ⟨x, n, h⟩ := a
  refine ⟨f (s.cage k).ctx.belief, fun m => ?_, ?_⟩
  · rw [h.ctx]
    change f x = none
    rw [n m, e]
  constructor <;>
    simp [h.ctx, h.qual, h.seq, h.ops, h.light, h.ledger, h.journal, h.standing, h.binding, h.settings,
      h.events, h.control, h.mrstOwner, h.mlowOwner, h.pulse]

theorem ite {t : State} {p : Prop} [Decidable p] (a : BeliefOnly k z s) (b : BeliefOnly k z t) :
    BeliefOnly k z (if p then s else t) := by
  split <;> assumption

theorem forgetBelief (a : BeliefOnly k z s) : BeliefOnly k z (s.forgetBelief k) := a.setBelief (f := fun _ => none) rfl

theorem concludeDown (a : BeliefOnly k z s) : BeliefOnly k z (s.concludeDown g k) := by
  unfold State.concludeDown
  split
  · exact (a.setBelief (f := fun b => b.map _) rfl).onTransfer
  · exact a

theorem endDown (a : BeliefOnly k z s) : BeliefOnly k z (s.endDown g k) := by
  unfold State.endDown State.select
  exact a.concludeDown.onGroup

theorem cutNow {x : Transfer} {p : Path} (a : BeliefOnly k z s) : BeliefOnly k z (s.cutNow g k x p) := by
  unfold State.cutNow State.setLastAck
  dsimp only
  have e : BeliefOnly k z (if x.relay = .live then s.endDown g k else s) := .ite a.endDown a
  exact (BeliefOnly.ite e.onGroup e).onTransfer.returnBus

theorem cutOwner (a : BeliefOnly k z s) : BeliefOnly k z (s.cutOwner g k) := by
  unfold State.cutOwner
  split
  · exact a.returnBus
  · dsimp only
    split
    · exact .ite a.cutNow a.returnBus
    · exact a.answerOn.returnBus
    · exact a.answerOn.returnBus
    all_goals exact a.onTransfer

theorem answerWaiting (a : BeliefOnly k z s) : BeliefOnly k z (s.answerWaiting g k) := by
  unfold State.answerWaiting State.stopWaiting
  split
  · refine .ite ?_ a
    split
    · exact a.onGroup.answerOn
    · exact a.onGroup
  · exact a

/-- R10, R23, R24: what a cage's departure from SERVING or HELD does to the cage itself. -/
theorem leaveService (a : BeliefOnly k z s) : BeliefOnly k z (s.leaveService k) := by
  unfold State.leaveService
  dsimp only
  have e : BeliefOnly k z (s.answerWaiting (groupOf k) k) := a.answerWaiting
  split
  · exact .ite e.cutOwner e
  · exact e

theorem unstall (a : BeliefOnly k z s) : BeliefOnly k z (s.unstall k) := by
  unfold State.unstall State.select
  dsimp only
  have e {f : Group → Group} : BeliefOnly k z (s.onGroup (groupOf k) f) := a.onGroup
  split
  · exact .ite (.ite e.freeBus e.onGroup) a
  · exact .ite e a
  · exact a

theorem closeBurst (a : BeliefOnly k z s) : BeliefOnly k z (s.closeBurst k) := a.bus (.closeBurst (.refl _ s))

theorem abortBurst (a : BeliefOnly k z s) : BeliefOnly k z (s.abortBurst k) := by
  unfold State.abortBurst State.setBurst
  split
  · exact a
  · exact .ite a.forgetBelief.onGroup a.forgetBelief.closeBurst

end BeliefOnly

/-- R10: of its own cage, a departure from service touches the belief and the bus only. -/
theorem State.leaveService_cage (s : State) (k : CageId) : BeliefOnly k s (s.leaveService k) :=
  (BeliefOnly.refl k s).leaveService

/-! ## Scans (R150) -/

/-- Everything of the device but the ledger, the queue, the device alarms and ALERT is as before. -/
structure Admission (s t : State) : Prop where
  groups : t.groups = s.groups
  profiles : t.profiles = s.profiles
  cache : t.cache = s.cache
  settings : t.settings = s.settings
  mode : t.mode = s.mode
  straps : t.straps = s.straps
  enables : t.enables = s.enables
  snapshot : t.snapshot = s.snapshot
  inReset : t.inReset = s.inReset
  ties : t.ties = s.ties
  pending : t.pending = s.pending

theorem Admission.refl (s : State) : Admission s s := ⟨rfl, rfl, rfl, rfl, rfl, rfl, rfl, rfl, rfl, rfl, rfl⟩

theorem Admission.trans {s t u : State} (a : Admission s t) (b : Admission t u) : Admission s u :=
  ⟨b.groups.trans a.groups, b.profiles.trans a.profiles, b.cache.trans a.cache, b.settings.trans a.settings,
    b.mode.trans a.mode, b.straps.trans a.straps, b.enables.trans a.enables, b.snapshot.trans a.snapshot,
    b.inReset.trans a.inReset, b.ties.trans a.ties, b.pending.trans a.pending⟩

theorem Admission.setCharge (s : State) (k : CageId) (x : Nat) (b : Bool) : Admission s (s.setCharge k x b) :=
  let d := s.setCharge_device k x b
  ⟨s.setCharge_groups k x b, d.profiles, d.cache, d.settings, d.mode, d.straps, d.enables, d.snapshot,
    d.inReset, d.ties, d.pending⟩

/-- R150: one grant. -/
theorem Scan.grant_admission (x : Scan) (k : CageId) : Admission x.state (x.grant k).state := by
  unfold Scan.grant
  dsimp only
  have a := Admission.setCharge x.state k (((x.state.cage k).ledger.computed).getD 0) true
  generalize x.state.setCharge k _ true = u at a
  exact a.trans ⟨rfl, rfl, rfl, rfl, rfl, rfl, rfl, rfl, rfl, rfl, rfl⟩

/-- R150: what the walk over a queue leaves of a cage that has no entry in it. -/
theorem Scan.walk_spec (q : List QueueEntry) (x : Scan) :
    Admission x.state (x.walk q).1.state ∧
      (∀ k, (∀ e ∈ q, e.cage ≠ k) → (x.walk q).1.state.cage k = x.state.cage k) ∧
      (∀ k ∈ (x.walk q).1.granted, k ∈ x.granted ∨ ∃ e ∈ q, e.cage = k) ∧
      ∀ e ∈ (x.walk q).2, ∃ d ∈ x.skipped ++ q, d.cage = e.cage := by
  induction q generalizing x with
  | nil =>
    refine ⟨.refl _, fun _ _ => rfl, fun k h => .inl h, fun e h => ⟨e, ?_, rfl⟩⟩
    simpa [Scan.walk] using h
  | cons e rest ih =>
    unfold Scan.walk
    split
    · obtain ⟨h1, h2, h3, h4⟩ := ih (x.grant e.cage)
      refine ⟨(x.grant_admission e.cage).trans h1, fun k h => ?_, fun k h => ?_, fun d h => ?_⟩
      · rw [h2 k fun d hd => h d (List.mem_cons_of_mem _ hd)]
        unfold Scan.grant
        dsimp only
        rw [State.cage_countDevice, State.cage_countDevice,
          State.setCharge_others _ (h e (List.mem_cons_self ..)).symm]
      · rcases h3 k h with a | ⟨d, hd, he⟩
        · rcases List.mem_append.1 a with a | a
          · exact .inl a
          · exact .inr ⟨e, List.mem_cons_self .., (List.mem_singleton.1 a).symm⟩
        · exact .inr ⟨d, List.mem_cons_of_mem _ hd, he⟩
      · obtain ⟨c, hc, he⟩ := h4 d h
        rcases List.mem_append.1 hc with a | a
        · obtain ⟨b, hb, rfl⟩ := List.mem_map.1 a
          exact ⟨b, List.mem_append_left _ hb, he⟩
        · exact ⟨c, List.mem_append_right _ (List.mem_cons_of_mem _ a), he⟩
    · split
      · obtain ⟨h1, h2, h3, h4⟩ := ih { x with skipped := x.skipped ++ [e] }
        refine ⟨h1, fun k h => h2 k fun d hd => h d (List.mem_cons_of_mem _ hd), fun k h => ?_, fun d h => ?_⟩
        · rcases h3 k h with a | ⟨d, hd, he⟩
          · exact .inl a
          · exact .inr ⟨d, List.mem_cons_of_mem _ hd, he⟩
        · obtain ⟨c, hc, he⟩ := h4 d h
          refine ⟨c, ?_, he⟩
          simpa using hc
      · exact ⟨.refl _, fun _ _ => rfl, fun k h => .inl h, fun d h => ⟨d, h, rfl⟩⟩

/-- R150: one scan, of a cage that has no entry. -/
theorem State.scanOnce_spec (s : State) :
    Admission s s.scanOnce.1 ∧
      (∀ k, (∀ e ∈ s.queue, e.cage ≠ k) → s.scanOnce.1.cage k = s.cage k ∧ k ∉ s.scanOnce.2.1 ∧
        ∀ e ∈ s.scanOnce.1.queue, e.cage ≠ k) := by
  obtain ⟨h1, h2, h3, h4⟩ :=
    Scan.walk_spec s.queue { state := s, skipped := [], granted := [], lowered := false }
  refine ⟨h1.trans ⟨rfl, rfl, rfl, rfl, rfl, rfl, rfl, rfl, rfl, rfl, rfl⟩, fun k h => ⟨h2 k h, fun m => ?_, fun e m => ?_⟩⟩
  · rcases h3 k m with a | ⟨d, hd, he⟩
    · cases a
    · exact h d hd he
  · obtain ⟨d, hd, he⟩ := h4 e m
    rw [← he]
    exact h d hd

/-- R150: the scan and its repeats, of a cage that has no entry. -/
theorem State.scanRepeat_spec (n : Nat) (s : State) :
    Admission s (State.scanRepeat n s).1 ∧
      (∀ k, (∀ e ∈ s.queue, e.cage ≠ k) → (State.scanRepeat n s).1.cage k = s.cage k ∧
        k ∉ (State.scanRepeat n s).2 ∧ ∀ e ∈ (State.scanRepeat n s).1.queue, e.cage ≠ k) := by
  induction n generalizing s with
  | zero => exact ⟨.refl s, fun k h => ⟨rfl, List.not_mem_nil, h⟩⟩
  | succ n ih =>
    obtain ⟨a, b⟩ := s.scanOnce_spec
    unfold State.scanRepeat
    rcases hs : s.scanOnce with ⟨t, ks, _ | _⟩ <;> rw [hs] at a b
    · exact ⟨a, b⟩
    · obtain ⟨c, d⟩ := ih t
      refine ⟨a.trans c, fun k h => ?_⟩
      obtain ⟨b1, b2, b3⟩ := b k h
      obtain ⟨d1, d2, d3⟩ := d k b3
      exact ⟨d1.trans b1, by simpa using ⟨b2, d2⟩, d3⟩

/-- R151: the granted cages enter RAMPING; another cage may only be handed the bus. -/
theorem State.ramp_spec (ks : List CageId) (s : State) :
    SameDevice s (ks.foldl (fun t k => t.enterRamping k) s) ∧
      ∀ k, k ∉ ks → SameButSlot (s.cage k) ((ks.foldl (fun t k => t.enterRamping k) s).cage k) := by
  induction ks generalizing s with
  | nil => exact ⟨.refl s, fun _ _ => .refl _⟩
  | cons j ks ih =>
    have c := (CageAndBus.refl j s).enterRamping
    obtain ⟨a, b⟩ := ih (s.enterRamping j)
    refine ⟨c.device.trans a, fun k h => ?_⟩
    simp only [List.mem_cons, not_or] at h
    exact (c.others k h.1).trans (b k h.2)

/-- R150: a scan occasion leaves a cage without an entry as it was, but for its request slot. -/
theorem State.scan_cage (s : State) (k : CageId) (h : ∀ e ∈ s.queue, e.cage ≠ k) :
    SameButSlot (s.cage k) (s.scan.cage k) ∧ ∀ e ∈ s.scan.queue, e.cage ≠ k := by
  obtain ⟨-, b⟩ := State.scanRepeat_spec (s.queue.length + 1) s
  obtain ⟨b1, b2, b3⟩ := b k h
  obtain ⟨c, d⟩ := State.ramp_spec (State.scanRepeat (s.queue.length + 1) s).2 (State.scanRepeat (s.queue.length + 1) s).1
  refine ⟨b1 ▸ d k b2, fun e m => b3 e ?_⟩
  have q : s.scan.queue = (State.scanRepeat (s.queue.length + 1) s).1.queue := c.queue
  rwa [q] at m

/-- R150: a scan occasion leaves the settings, the profiles and the cache. -/
theorem State.scan_device (s : State) :
    s.scan.profiles = s.profiles ∧ s.scan.settings = s.settings ∧ s.scan.cache = s.cache ∧
      s.scan.mode = s.mode ∧ s.scan.straps = s.straps ∧ s.scan.inReset = s.inReset ∧ s.scan.pending = s.pending := by
  obtain ⟨a, -⟩ := State.scanRepeat_spec (s.queue.length + 1) s
  obtain ⟨c, -⟩ := State.ramp_spec (State.scanRepeat (s.queue.length + 1) s).2 (State.scanRepeat (s.queue.length + 1) s).1
  exact ⟨c.profiles.trans a.profiles, c.settings.trans a.settings, c.cache.trans a.cache, c.mode.trans a.mode,
    c.straps.trans a.straps, c.inReset.trans a.inReset, c.pending.trans a.pending⟩

/-! ## The journal (R49 to R58) -/

/-- Of cage `k` only the journal and its events, and of the device only its flags, may have changed. -/
structure JournalOnly (k : CageId) (s t : State) : Prop where
  others : ∀ j, j ≠ k → t.cage j = s.cage j
  groups : t.groups = s.groups
  device : SameDevice { s with flags := t.flags } t
  own : SameButSlot { s.cage k with journal := (t.cage k).journal, events := (t.cage k).events } (t.cage k)

namespace JournalOnly

variable {k : CageId} {s t u : State}

theorem refl (k : CageId) (s : State) : JournalOnly k s s := ⟨fun _ _ => rfl, rfl, .refl s, .refl _⟩

theorem trans (a : JournalOnly k s t) (b : JournalOnly k t u) : JournalOnly k s u where
  others j h := (b.others j h).trans (a.others j h)
  groups := b.groups.trans a.groups
  device := by
    obtain ⟨a1, a2, a3, a4, a5, a6, a7, -, a9, a10, a11, a12, a13, a14⟩ := a.device
    obtain ⟨b1, b2, b3, b4, b5, b6, b7, b8, b9, b10, b11, b12, b13, b14⟩ := b.device
    constructor <;> simp_all
  own := by
    have h := a.own
    have g := b.own
    constructor
    · exact g.ctx.trans h.ctx
    · exact g.qual.trans h.qual
    · exact g.seq.trans h.seq
    · exact g.ops.trans h.ops
    · exact g.light.trans h.light
    · exact g.ledger.trans h.ledger
    · rfl
    · exact g.standing.trans h.standing
    · exact g.binding.trans h.binding
    · exact g.settings.trans h.settings
    · rfl
    · exact g.control.trans h.control
    · exact g.mrstOwner.trans h.mrstOwner
    · exact g.mlowOwner.trans h.mlowOwner
    · exact g.pulse.trans h.pulse

theorem onJournal (s : State) (k : CageId) (f : Journal → Journal) : JournalOnly k s (s.onJournal k f) :=
  ⟨fun j h => State.cage_onCage_ne s h _, rfl, ⟨rfl, rfl, rfl, rfl, rfl, rfl, rfl, rfl, rfl, rfl, rfl, rfl, rfl, rfl⟩,
    by constructor <;> simp⟩

theorem losePiece (s : State) (k : CageId) : JournalOnly k s (s.onCage k Cage.losePiece) :=
  ⟨fun j h => State.cage_onCage_ne s h _, rfl, ⟨rfl, rfl, rfl, rfl, rfl, rfl, rfl, rfl, rfl, rfl, rfl, rfl, rfl, rfl⟩,
    by
      rw [State.cage_onCage_self]
      unfold Cage.losePiece
      dsimp only
      split <;> constructor <;> rfl⟩

theorem latchDevice (a : JournalOnly k s t) (f : DeviceFlag) : JournalOnly k s (t.latchDevice f) :=
  a.trans ⟨fun _ _ => rfl, rfl, ⟨rfl, rfl, rfl, rfl, rfl, rfl, rfl, rfl, rfl, rfl, rfl, rfl, rfl, rfl⟩, .refl _⟩

/-- R52 to R58. -/
theorem takePiece (s : State) (k : CageId) (b : Bool) (p : Piece) : JournalOnly k s (s.takePiece k b p) := by
  unfold State.takePiece
  split
  · exact onJournal ..
  · split
    · exact onJournal ..
    · dsimp only
      split
      · exact (losePiece s k).latchDevice _
      · exact losePiece s k

/-- R50 to R58: a handed write touches the journal and the events of its cage, and the device flags. -/
theorem takeWrite (s : State) (w : HandedWrite) : JournalOnly w.cage s (s.takeWrite w) := by
  unfold State.takeWrite
  split
  · split
    · exact .refl ..
    · exact ⟨fun j h => State.cage_onCage_ne s h _, rfl,
        ⟨rfl, rfl, rfl, rfl, rfl, rfl, rfl, rfl, rfl, rfl, rfl, rfl, rfl, rfl⟩,
        by constructor <;> simp [Cage.countN]⟩
  · rename_i frozen
    clear frozen
    generalize cutPieces w.bank w.page w.acknowledged = l
    induction l generalizing s with
    | nil => exact .refl ..
    | cons p l ih => exact (takePiece s w.cage w.reached p).trans (ih _)

end JournalOnly

end Sys2Proof.Machine
end

