-- ==== Sys2Proof/Laws/Arbiter.lean ====
section
/-! SUPPORT. What the arbiter's choice gives (`State.Chooses`), how a host's transfer goes downstream (`Transfer.GoesDown`), and what
becomes of the hosts and the bus of a cage that leaves SERVING or HELD (`State.LeavesService`), each said once. -/

namespace Sys2Proof.Machine

/-! ## The transfer in progress -/

theorem State.current_eq {s : State} {g : GroupId} {k : CageId} {x : Transfer} :
    s.current g = some (k, x) ↔ (s.group g).up.transaction = some { cage := some k, transfer := some x } := by
  unfold State.current
  rcases (s.group g).up.transaction with _ | ⟨_ | c, _ | y⟩ <;> simp

theorem State.current_congr {s t : State} {g : GroupId} (h : (t.group g).up.transaction = (s.group g).up.transaction) :
    t.current g = s.current g := by
  simp only [State.current, h]

theorem State.current_onTransfer (s : State) (g : GroupId) (f : Transfer → Transfer) :
    (s.onTransfer g f).current g = (s.current g).map fun y => (y.1, f y.2) := by
  unfold State.current State.onTransfer
  simp only [State.group_onGroup_self]
  rcases (s.group g).up.transaction with _ | ⟨_ | c, _ | y⟩ <;> rfl

theorem BusOnly.profileOf {g : GroupId} {s t : State} (h : BusOnly g s t) (k : CageId) : t.profileOf k = s.profileOf k := by
  unfold State.profileOf State.profile
  rw [h.device.profiles, (h.cages k).binding]

/-! ## A host's transfer goes downstream (R4, R7, R13) -/

/-- The selects a belief needs are the same list under either name. -/
theorem selectWrites_eq (p : Profile) (b : Option Belief) (bank page : Byte) :
    selectWrites p.bankSelect p.pageSelect b bank page = p.neededSelects b bank page := rfl

theorem keyBank_eq (p : Profile) (b : Byte) : p.keyBank b = if p.bankSelect = none then 0#8 else b := by
  unfold Profile.keyBank
  cases p.bankSelect <;> rfl

/-- A job of the transfers given starts with the first. -/
theorem Job.make_transfers {l : List (List DownByte)} (h : l ≠ []) (full : Bool) (goal : Belief) :
    (Job.make l full goal).current :: (Job.make l full goal).later = l := by
  cases l with
  | nil => exact absurd rfl h
  | cons a l => rfl

/-- R7: a resynchronisation is needed exactly where something is to be written, and writes that. -/
theorem resyncJob_spec (p : Profile) (v : Context) (read : Bool) :
    (p.neededResync v read = [] → resyncJob p v read = none) ∧
      (p.neededResync v read ≠ [] → resyncJob p v read =
        some
          (Job.make (p.neededResync v read) v.belief.isNone
            { bank := if p.bankSelect = none then 0#8 else v.shadowBank, page := v.modulePage,
              ptr := if read then v.hostPtr else ptrNext p.pageSelect })) := by
  unfold resyncJob Profile.neededResync
  rw [selectWrites_eq, keyBank_eq]
  generalize p.neededSelects v.belief v.shadowBank v.modulePage = l
  cases l <;> cases read <;> simp [pointerWrite]
  split <;> simp_all

/-- R7, R26: every select write begins with the module's address. -/
theorem Profile.neededSelects_head (p : Profile) (b : Option Belief) (bank page : Byte) {x : List DownByte}
    (m : x ∈ p.neededSelects b bank page) : x.head? = some .addressWrite := by
  unfold Profile.neededSelects at m
  rcases List.mem_append.1 m with m | m
  · rcases hb : p.bankSelect with _ | o <;> simp only [hb] at m
    · cases m
    · split at m <;> simp_all
  · split at m <;> simp_all

/-- R7: every transfer of a resynchronisation is a write to the module. -/
theorem Profile.neededResync_head (p : Profile) (v : Context) (read : Bool) {a : List DownByte} {l : List (List DownByte)}
    (h : p.neededResync v read = a :: l) : a.head? = some .addressWrite := by
  unfold Profile.neededResync at h
  dsimp only at h
  split at h
  · have m : a ∈ p.neededSelects v.belief v.shadowBank v.modulePage ++ [[.addressWrite, .offset v.hostPtr]] := h ▸ .head _
    rcases List.mem_append.1 m with m | m
    · exact p.neededSelects_head _ _ _ m
    · rw [List.mem_singleton.1 m]
      rfl
  · exact p.neededSelects_head _ _ _ (h ▸ List.mem_cons_self ..)

/-- R4, R7, R13: the host's transfer goes on from its address byte: DSEL, the module-wait timer, and the hold of its first byte. -/
theorem State.startForward_own {s : State} {g : GroupId} {k : CageId} {x : Transfer} (h : s.current g = some (k, x)) :
    ∃ hold,
      (s.startForward g).group g =
          { s.group g with
            up := { (s.group g).up with transaction := some { cage := some k, transfer := some { x with hold := hold } } }
            down :=
              { (s.group g).down with
                selected := some k, wait := some { duration := s.settings.moduleWait, elapsed := 0 } } } ∧
        Transfer.GoesDown { x with hold := hold } (s.profileOf k) (s.cage k).ctx ∧
        (hold = .address ∨ ∃ j, hold = .resync j ∧ j.current.head? = some .addressWrite) := by
  have t := State.current_eq.1 h
  have e : ∀ y, (((s.select g (some k)).arm g).setHold g y).group g =
      { s.group g with
        up := { (s.group g).up with transaction := some { cage := some k, transfer := some { x with hold := y } } }
        down :=
          { (s.group g).down with
            selected := some k, wait := some { duration := s.settings.moduleWait, elapsed := 0 } } } := fun y => by
    simp [State.setHold, State.onTransfer, State.select, State.arm, t, Timer.start]
  obtain ⟨r1, r2⟩ := resyncJob_spec (s.profileOf k) (s.cage k).ctx x.read
  unfold State.startForward
  rw [h]
  dsimp only
  split
  · rename_i hp
    by_cases n : (s.profileOf k).neededResync (s.cage k).ctx x.read = []
    · rw [r1 n]
      exact ⟨.address, e _, ⟨fun q => rfl, fun _ _ => rfl, fun _ m => absurd n m⟩, .inl rfl⟩
    · rw [r2 n]
      refine ⟨_, e _, ⟨fun q => (by rw [hp] at q; cases q), fun _ m => absurd m n, fun _ _ => ⟨_, rfl, Job.make_transfers n _ _, rfl, rfl, rfl, rfl, rfl⟩⟩, .inr ⟨_, rfl, ?_⟩⟩
      rcases hl : (s.profileOf k).neededResync (s.cage k).ctx x.read with _ | ⟨a, l⟩
      · exact absurd hl n
      · exact Profile.neededResync_head _ _ _ hl
  · rename_i hp
    exact ⟨.address, e _, ⟨fun _ => rfl, fun q => absurd q hp, fun q => absurd q hp⟩, .inl rfl⟩

/-- R4, R7: the byte on the bus of a transfer that has gone downstream. -/
theorem State.startForward_wire {t : State} {g : GroupId} {k c : CageId} {x : Transfer} {y : Timer} (hc : t.current g = some (k, x))
    (ho : (t.group g).owner = .host c false) (hw : (t.group g).down.wait = some y)
    (hb : x.hold = .address ∨ ∃ j, x.hold = .resync j ∧ j.current.head? = some .addressWrite) :
    (x.hold = .address → t.wire g = some (.address x.address x.read)) ∧
      ∀ j, x.hold = .resync j → t.wire g = some (.address t.straps.moduleAddress false) := by
  unfold State.wire
  simp only [hw, ho, hc, Option.isNone_some, Bool.false_eq_true, if_false, Option.bind_some, Transfer.onWire]
  rcases hb with e | ⟨j, e, f⟩
  · rw [e]; exact ⟨fun _ => rfl, nofun⟩
  · rw [e]
    refine ⟨nofun, fun i hi => ?_⟩
    simp [f, DownByte.onWire]

/-! ## The arbiter's choice (R22) -/

theorem slotOf_cageAt (g : GroupId) (n : SlotId) : slotOf (cageAt g n) = n := by
  apply Fin.ext
  simp only [slotOf, cageAt]
  omega

theorem groupOf_cageAt (g : GroupId) (n : SlotId) : groupOf (cageAt g n) = g := by
  apply Fin.ext
  simp only [groupOf, cageAt]
  omega

theorem cageAt_ne {g : GroupId} {m n : SlotId} (h : m ≠ n) : cageAt g m ≠ cageAt g n := fun e =>
  h (by rw [← slotOf_cageAt g m, e, slotOf_cageAt])

/-- R22, R25, R26: DN*g* is handed to a request; only its own slot, and its group, change. -/
theorem State.beginBurst_handed (s : State) (g : GroupId) (n : SlotId) (a : Agent) (r : Request)
    (hw : (s.group g).waiting = none) :
    (s.beginBurst g (cageAt g n) a r).HandedToBurst g n a r ∧
      ∀ m, m ≠ n → ((s.beginBurst g (cageAt g n) a r).cage (cageAt g m)).slot = (s.cage (cageAt g m)).slot := by
  have bus : BusOnly g s (s.beginBurst g (cageAt g n) a r) := .beginBurst (.refl g s)
  have prof := fun k => bus.profileOf k
  have ctx := fun k => (bus.cages k).ctx
  have slots : ∀ j, ((s.beginBurst g (cageAt g n) a r).cage j).slot =
      if j = cageAt g n then .running else (s.cage j).slot := fun j => by
    have e : (s.beginBurst g (cageAt g n) a r).cages = (s.onCage (cageAt g n) fun c => { c with slot := .running }).cages := by
      unfold State.beginBurst
      dsimp only
      split <;> rfl
    rw [State.cage_congr e, State.cage_onCage]
    split <;> rfl
  refine ⟨⟨?_, ?_, ?_, ?_, ?_, ?_, ?_, ?_⟩, fun m h => ?_⟩
  · unfold State.beginBurst
    dsimp only
    split <;> simp [State.startData, State.arm, State.setBurst, State.select]
  · unfold State.beginBurst
    dsimp only
    split <;> simp [State.startData, State.arm, State.setBurst, State.select, hw]
  · unfold State.beginBurst
    dsimp only
    split <;> simp [State.startData, State.arm, State.setBurst, State.select, slotOf_cageAt]
  · rw [slots, if_pos rfl]
  · rw [prof, ctx]
    unfold State.beginBurst
    dsimp only
    rw [selectWrites_eq]
    split
    · rename_i h
      have h := List.isEmpty_iff.1 h
      refine ⟨_, by simp [State.startData, State.arm, State.setBurst]; rfl, rfl, rfl, rfl, ⟨rfl, rfl⟩, ⟨rfl, rfl, rfl, rfl, rfl, rfl, rfl⟩, rfl, ⟨rfl, rfl, rfl⟩, ?_, ?_, fun q => absurd ?_ q, fun _ => ⟨rfl, rfl, rfl, ?_⟩⟩
      · unfold targetPage; split <;> simp_all
      · unfold targetPage; split <;> simp_all [keyBank_eq]
      · exact h
      · cases r with
        | mk q tg d => cases d <;> rfl
    · rename_i h
      have h : ¬ _ = [] := fun e => h (List.isEmpty_iff.2 e)
      refine ⟨_, by simp [State.arm, State.setBurst]; rfl, rfl, rfl, rfl, ⟨rfl, rfl⟩, ⟨rfl, rfl, rfl, rfl, rfl, rfl, rfl⟩, rfl, ⟨rfl, rfl, rfl⟩, ?_, ?_, fun _ => ⟨rfl, rfl, Job.make_transfers h _ _, rfl⟩, fun q => absurd q h⟩
      · unfold targetPage; split <;> simp_all
      · unfold targetPage; split <;> simp_all [keyBank_eq]
  · unfold State.beginBurst
    dsimp only
    split <;> simp [State.startData, State.arm, State.setBurst, State.select]
  · unfold State.beginBurst
    dsimp only
    split <;> simp [State.startData, State.arm, State.setBurst, State.select, Timer.start]
  · unfold State.wire State.beginBurst
    dsimp only
    rw [selectWrites_eq]
    split
    · rcases r with ⟨q, tg, _ | d⟩ <;>
        simp [State.startData, State.arm, State.setBurst, State.select, Timer.start, Request.dataPhase, Job.make, pointerWrite, DownByte.onWire]
    · rename_i h
      rcases hl : (s.profileOf (cageAt g n)).neededSelects (s.cage (cageAt g n)).ctx.belief
        (targetPage (s.profileOf (cageAt g n)) (s.cage (cageAt g n)).ctx r.target).1
        (targetPage (s.profileOf (cageAt g n)) (s.cage (cageAt g n)).ctx r.target).2 with _ | ⟨x, l⟩
      · rw [hl] at h; exact absurd rfl h
      · have := Profile.neededSelects_head _ _ _ _ (hl ▸ List.Mem.head l : x ∈ _)
        simp [State.arm, State.setBurst, State.select, Timer.start, Job.make, this, DownByte.onWire]
  · rw [slots, if_neg (cageAt_ne h)]

/-- R22.2: in the cyclic order the slots before `n` are those nearer to the slot last served. -/
theorem slotOrder_split : ∀ last n : SlotId,
    (slotOrder last).takeWhile (fun m => decide (m ≠ n)) ++ n :: ((slotOrder last).dropWhile fun m => decide (m ≠ n)).tail =
        slotOrder last ∧
      ∀ m ∈ (slotOrder last).takeWhile fun m => decide (m ≠ n), (m - last - 1).val < (n - last - 1).val := by
  decide

/-- The first slot of the cyclic order that answers. -/
theorem slotOrder_findSome {α : Type} (f : SlotId → Option α) (last n : SlotId) {v : α} (h : f n = some v)
    (first : ∀ m, (m - last - 1).val < (n - last - 1).val → f m = none) : (slotOrder last).findSome? f = some v := by
  obtain ⟨e, b⟩ := slotOrder_split last n
  rw [← e, List.findSome?_append, List.findSome?_eq_none_iff.2 fun m i => first m (b m i), Option.none_or,
    List.findSome?_cons, h]

theorem Slot.request?_eq {x : Slot} {a : Agent} {r : Request} : x.request? = some (a, r) ↔ x = .requested a r := by
  cases x <;> simp [Slot.request?]

/-- R22.2: the first request is the arbiter's. -/
theorem State.nextRequest_first {s : State} {g : GroupId} {n : SlotId} {a : Agent} {r : Request}
    (h : FirstRequest (fun m => (s.cage (cageAt g m)).slot) (s.group g).lastServed n a r) :
    s.nextRequest g = some (cageAt g n, a, r) := by
  obtain ⟨e, first⟩ := h
  refine slotOrder_findSome _ _ n (by rw [Slot.request?_eq.2 e]; rfl) fun m lt => ?_
  rcases hm : (s.cage (cageAt g m)).slot.request? with _ | ⟨b, q⟩
  · rfl
  · exact absurd (first m b q (Slot.request?_eq.1 hm)) (by omega)

theorem State.nextRequest_none {s : State} {g : GroupId}
    (h : ∀ n a r, (s.cage (cageAt g n)).slot ≠ .requested a r) : s.nextRequest g = none := by
  refine List.findSome?_eq_none_iff.2 fun n _ => ?_
  rcases hm : (s.cage (cageAt g n)).slot.request? with _ | ⟨b, q⟩
  · rfl
  · exact absurd (Slot.request?_eq.1 hm) (h n b q)

/-- R22: an IDLE bus is handed over by the arbiter's choice. -/
theorem State.arbitrate_chooses {s : State} {g : GroupId} (ho : (s.group g).owner = .idle) (hb : (s.group g).burst = none)
    (hs : (s.group g).down.selected = none) (hw : (s.group g).down.wait = none) :
    s.Chooses (s.arbitrate g) g fun n => (s.cage (cageAt g n)).slot := by
  unfold State.arbitrate
  rw [if_pos ho]
  refine ⟨fun w e => ?_, fun n a r e first => ?_, fun e none => ?_⟩
  · rw [e]
    dsimp only
    generalize hu : s.onGroup g (fun x => { x with owner := .host w.cage false, waiting := none }) = u
    have ug : u.group g = { s.group g with owner := .host w.cage false, waiting := none } := by
      rw [← hu, State.group_onGroup_self]
    have uc : ∀ j, u.cage j = s.cage j := fun j => by rw [← hu]; rfl
    have cages := u.startForward_cages g
    rcases hc : u.current g with _ | ⟨k, x⟩
    · have e : u.startForward g = u := by unfold State.startForward; rw [hc]
      rw [e]
      refine ⟨⟨by rw [ug], by rw [ug], by rw [ug]; exact hb, fun k x hx => ?_⟩, by rw [ug], fun m => by rw [uc]⟩
      rw [hc] at hx
      cases hx
    · obtain ⟨hold, eg, gd, hh⟩ := State.startForward_own hc
      have bus : BusOnly g u (u.startForward g) := .startForward (.refl g u)
      refine ⟨⟨by rw [eg, ug], by rw [eg, ug], by rw [eg, ug]; exact hb, fun j y hy => ?_⟩, by rw [eg, ug], fun m => by
        rw [State.cage_congr cages, uc]⟩
      have hy' := State.current_eq.1 hy
      rw [eg] at hy'
      simp only [Option.some.injEq, Transaction.mk.injEq] at hy'
      obtain ⟨rfl, rfl⟩ := hy'
      have w1 : ((u.startForward g).group g).down.wait = some { duration := (u.startForward g).settings.moduleWait, elapsed := 0 } := by
        rw [eg, bus.device.settings]
      refine ⟨by rw [eg], w1, ?_, State.startForward_wire hy (by rw [eg, ug]) w1 hh⟩
      rw [bus.profileOf, (bus.cages _).ctx]
      exact gd
  · rw [e, State.nextRequest_first first]
    exact s.beginBurst_handed g n a r e
  · rw [e, State.nextRequest_none none]
    exact ⟨ho, e, hb, hs, hw, rfl, fun _ => rfl⟩

/-- R22, R24: a bus given up is handed over by the arbiter's choice. -/
theorem State.freeBus_chooses (s : State) (g : GroupId) :
    s.Chooses (s.freeBus g) g fun n => (s.cage (cageAt g n)).slot := by
  unfold State.freeBus
  have h := State.arbitrate_chooses
    (s := s.onGroup g fun x =>
      { x with owner := .idle, burst := none, down := { x.down with selected := none, wait := none } }) (g := g)
    (by simp) (by simp) (by simp) (by simp)
  refine ⟨fun w e => ?_, fun n a r e first => ?_, fun e none => ?_⟩
  · simpa using h.host w (by simpa using e)
  · simpa using h.request n a r (by simpa using e) (by simpa using first)
  · simpa using h.nobody (by simpa using e) (by simpa using none)

/-- R22: whatever the arbiter chooses, the bus has passed on. -/
theorem State.Chooses.passedOn {s t : State} {g : GroupId} {slots : SlotId → Slot} (h : s.Chooses t g slots) : t.PassedOn g := by
  rcases hw : (s.group g).waiting with _ | w
  · by_cases hn : ∀ n a r, slots n ≠ .requested a r
    · obtain ⟨a, b, c, d, e, -⟩ := h.nobody hw hn
      exact .inr (.inr ⟨a, b, c, d, e⟩)
    · have : ∃ n, ((slots n).request?).isSome = true := by
        by_contra c
        refine hn fun n a r e => c ⟨n, ?_⟩
        rw [Slot.request?_eq.2 e]
        rfl
      obtain ⟨n, first⟩ : ∃ n, ((slots n).request?).isSome = true ∧
          ∀ m, ((slots m).request?).isSome = true →
            (n - (s.group g).lastServed - 1).val ≤ (m - (s.group g).lastServed - 1).val := by
        obtain ⟨n, hn, hm⟩ := Finset.exists_min_image (Finset.univ.filter fun n => ((slots n).request?).isSome = true)
          (fun n => (n - (s.group g).lastServed - 1).val) (by obtain ⟨n, e⟩ := this; exact ⟨n, by simpa using e⟩)
        exact ⟨n, by simpa using hn, fun m e => hm m (by simpa using e)⟩
      obtain ⟨⟨a, r⟩, hr⟩ := Option.isSome_iff_exists.1 first.1
      refine .inr (.inl ⟨n, a, r, (h.request n a r hw ⟨Slot.request?_eq.1 hr, fun m b q e => first.2 m ?_⟩).1⟩)
      rw [Slot.request?_eq.2 e]
      rfl
  · exact .inl ⟨_, (h.host w hw).1⟩

/-- R24: a host transaction gives its bus back. -/
theorem State.returnBus_givesBack (s : State) (g : GroupId) : s.GivesBack (s.returnBus g) g := by
  unfold State.returnBus
  refine ⟨fun h => ?_, fun j e h hs => ?_, fun j e h hs => ?_⟩
  · split
    · rename_i k e o
      exact absurd o (h k e)
    · rfl
  · rw [h]
    dsimp only
    rw [if_pos hs, State.group_onGroup_self]
  · rw [h]
    dsimp only
    rw [if_neg (by rw [hs]; exact Bool.false_ne_true)]
    exact s.freeBus_chooses g

/-! ## While a bus is held (R21, R22) -/

/-- Cage `k` has been changed, and its agents have raised or withdrawn requests: a bus of its group that is held stands, but that a
burst of the cage may have lost its operation, and so do the slots of the other cages. -/
structure BusStands (k : CageId) (s u : State) : Prop where
  group : (s.group (groupOf k)).owner ≠ .idle →
    ∃ b, u.group (groupOf k) = { s.group (groupOf k) with burst := b } ∧ ((s.group (groupOf k)).burst = none → b = none)
  slots : (s.group (groupOf k)).owner ≠ .idle → ∀ j, j ≠ k → (u.cage j).slot = (s.cage j).slot
  mine : (s.group (groupOf k)).owner ≠ .idle → (s.cage k).slot ≠ .running → (u.cage k).slot ≠ .running

/-- R22: a bus that is held is not handed over. -/
theorem State.arbitrate_held {s : State} {g : GroupId} (h : (s.group g).owner ≠ .idle) : s.arbitrate g = s := by
  unfold State.arbitrate
  rw [if_neg h]

namespace BusStands

variable {k : CageId} {s t u : State}

theorem refl (k : CageId) (s : State) : BusStands k s s :=
  ⟨fun _ => ⟨_, rfl, id⟩, fun _ _ _ => rfl, fun _ h => h⟩

theorem trans (a : BusStands k s t) (b : BusStands k t u) : BusStands k s u := by
  have held : (s.group (groupOf k)).owner ≠ .idle → (t.group (groupOf k)).owner ≠ .idle := fun h => by
    obtain ⟨b, e, -⟩ := a.group h
    rw [e]
    exact h
  refine ⟨fun h => ?_, fun h j n => (b.slots (held h) j n).trans (a.slots h j n), fun h n => b.mine (held h) (a.mine h n)⟩
  obtain ⟨x, e, n⟩ := a.group h
  obtain ⟨y, f, m⟩ := b.group (held h)
  exact ⟨y, by rw [f, e], fun q => m (by rw [e]; exact n q)⟩

theorem onCage {f : Cage → Cage} (a : BusStands k s t) (h : ∀ c, c.slot ≠ .running → (f c).slot ≠ .running) :
    BusStands k s (t.onCage k f) :=
  a.trans ⟨fun _ => ⟨_, rfl, id⟩, fun _ j n => by rw [State.cage_onCage_ne t n], fun _ n => by
    rw [State.cage_onCage_self]
    exact h _ n⟩

theorem onSeq {f : Sequencer → Sequencer} (a : BusStands k s t) : BusStands k s (t.onSeq k f) := a.onCage fun _ h => h

theorem onOps {f : Operations → Operations} (a : BusStands k s t) : BusStands k s (t.onOps k f) := a.onCage fun _ h => h

theorem onLight {f : LightMonitor → LightMonitor} (a : BusStands k s t) : BusStands k s (t.onLight k f) :=
  a.onCage fun _ h => h

theorem latch {f : CageFlag} (a : BusStands k s t) : BusStands k s (t.latch k f) := a.onCage fun _ h => h

theorem ite {p : Prop} [Decidable p] (a : BusStands k s t) (b : BusStands k s u) :
    BusStands k s (if p then t else u) := by
  split <;> assumption

theorem fillSlot {c : Cage} (h : c.slot ≠ .running) : c.fillSlot.slot ≠ .running := by
  unfold Cage.fillSlot
  split
  · exact nofun
  · exact h

theorem arbitrate (a : BusStands k s t) : BusStands k s (t.arbitrate (groupOf k)) :=
  a.trans ⟨fun h => by rw [State.arbitrate_held h]; exact ⟨_, rfl, id⟩, fun h _ _ => by rw [State.arbitrate_held h],
    fun h n => by rw [State.arbitrate_held h]; exact n⟩

theorem raise {a : Agent} {r : Request} (h : BusStands k s t) : BusStands k s (t.raise k a r) :=
  (h.onCage (f := fun c => Cage.fillSlot { c with slotQueue := c.slotQueue ++ [(a, r)] }) fun _ n => fillSlot n).arbitrate

theorem withdraw {a : Agent} (h : BusStands k s t) : BusStands k s (t.withdraw k a) := by
  have e : BusStands k s (t.onCage k (·.withdrawAgent a)) := h.onCage fun c n => by
    refine fillSlot ?_
    rcases hc : c.slot with _ | ⟨b, r⟩ | _ <;> simp only
    · exact nofun
    · split <;> exact nofun
    · exact absurd hc n
  refine BusStands.arbitrate (e.trans ⟨fun _ => ⟨_, by rw [State.group_onGroup_self]; rfl, fun q => ?_⟩, fun _ _ _ => rfl, fun _ n => n⟩)
  rw [q]
  rfl

theorem endOps (a : BusStands k s t) : BusStands k s (t.endOps k) := by
  unfold State.endOps
  exact (a.onCage (f := Cage.endOps) fun _ h => h).withdraw

theorem endLight (a : BusStands k s t) : BusStands k s (t.endLight k) := a.onLight.withdraw

theorem startRecovery {x : RecoveryKind} (a : BusStands k s t) : BusStands k s (t.startRecovery k x) := by
  unfold State.startRecovery State.setDim
  exact (ite a a.onSeq.latch).onCage fun _ h => h

theorem departService {x : RecoveryKind} (a : BusStands k s t) : BusStands k s (t.departService k x) :=
  a.endOps.endLight.startRecovery.onSeq

theorem raisePoll (a : BusStands k s t) : BusStands k s (t.raisePoll k) := ite a.onOps.raise a.onOps

theorem beginWait {x y : WaitKind} {n : Nat} (a : BusStands k s t) : BusStands k s (t.beginWait k x y n) := by
  unfold State.beginWait
  dsimp only
  exact ite a.onSeq.raisePoll a.onSeq

theorem beginBootWait (a : BusStands k s t) : BusStands k s (t.beginBootWait k) := ite a.beginWait a

end BusStands

/-! ## A cage that leaves SERVING or HELD (R9, R10, R23, R24) -/

/-- R8: the byte at the host pointer lies on a control page. -/
theorem State.onControlPage_eq (s : State) (k : CageId) :
    s.onControlPage k = decide (128 ≤ (s.cage k).ctx.hostPtr.toNat ∧
      ((s.cage k).ctx.shadowPage = s.straps.ctrlPage ∨ (s.cage k).ctx.shadowPage = s.straps.ctrlPage + 1#8)) := by
  unfold State.onControlPage Straps.controlByte Straps.controlPage isUpper
  by_cases a : 128 ≤ (s.cage k).ctx.hostPtr.toNat <;>
    by_cases b : (s.cage k).ctx.shadowPage = s.straps.ctrlPage <;>
      by_cases c : (s.cage k).ctx.shadowPage = s.straps.ctrlPage + 1#8 <;> simp [a, b, c]

/-- R9: outside SERVING and HELD the path of a transfer is the one its cage's state gives it away from the module. -/
theorem State.pathNow_away {s : State} {k : CageId} (x : Transfer) (h : (s.cage k).seq.state.inService = false) :
    s.pathNow k x.path.isModule x.read = s.pathAway k x := by
  unfold State.pathNow State.pathAway
  rw [State.onControlPage_eq, h]
  rcases x.path <;> rcases (s.cage k).seq.concealed <;> rcases x.read <;> simp [Path.isModule]

/-- R9: a path away from the module is read off the concealment and the host view. -/
theorem State.pathAway_congr {s t : State} {k : CageId} (x : Transfer) (q : (t.cage k).seq.concealed = (s.cage k).seq.concealed)
    (p : (t.cage k).ctx.hostPtr = (s.cage k).ctx.hostPtr) (g : (t.cage k).ctx.shadowPage = (s.cage k).ctx.shadowPage)
    (h : t.straps = s.straps) : t.pathAway k x = s.pathAway k x := by
  unfold State.pathAway
  simp only [q, p, g, h]

theorem Path.reply_eq (p : Path) : p.reply = p.addressAnswer := by cases p <;> rfl

theorem State.pathAway_relayed (t : State) (k : CageId) (x : Transfer) : (t.pathAway k x).isRelayed = false := by
  unfold State.pathAway
  dsimp only
  repeat' split
  all_goals rfl

/-- R22: with no host waiting the arbiter leaves the upstream port. -/
theorem State.arbitrate_up {s : State} {g : GroupId} (h : (s.group g).waiting = none) :
    ((s.arbitrate g).group g).up = (s.group g).up ∧ ((s.arbitrate g).group g).waiting = none := by
  unfold State.arbitrate
  split
  · rw [h]
    dsimp only
    split
    · unfold State.beginBurst
      dsimp only
      split <;> simp [State.startData, State.arm, State.setBurst, State.select, h]
    · exact ⟨rfl, h⟩
  · exact ⟨rfl, h⟩

/-- R22: the arbiter's choice leaves a stall and the acknowledge last given to a module. -/
theorem State.arbitrate_down (s : State) (g : GroupId) :
    ((s.arbitrate g).group g).down.stalled = (s.group g).down.stalled ∧
      ((s.arbitrate g).group g).down.lastAck = (s.group g).down.lastAck := by
  unfold State.arbitrate
  split
  · split
    · rename_i w _
      generalize hu : s.onGroup g (fun x => { x with owner := .host w.cage false, waiting := none }) = u
      have e : (u.group g).down = (s.group g).down := by rw [← hu, State.group_onGroup_self]
      rcases hc : u.current g with _ | ⟨k, x⟩
      · unfold State.startForward
        rw [hc, e]
        exact ⟨rfl, rfl⟩
      · obtain ⟨y, eg, -⟩ := State.startForward_own hc
        rw [eg, e]
        exact ⟨rfl, rfl⟩
    · split
      · unfold State.beginBurst
        dsimp only
        split <;> simp [State.startData, State.arm, State.setBurst, State.select]
      · exact ⟨rfl, rfl⟩
  · exact ⟨rfl, rfl⟩

theorem State.freeBus_up {s : State} {g : GroupId} (h : (s.group g).waiting = none) :
    ((s.freeBus g).group g).up = (s.group g).up ∧ ((s.freeBus g).group g).waiting = none := by
  unfold State.freeBus
  obtain ⟨a, b⟩ := State.arbitrate_up
    (s := s.onGroup g fun x =>
      { x with owner := .idle, burst := none, down := { x.down with selected := none, wait := none } }) (g := g)
    (by simp [h])
  exact ⟨by rw [a, State.group_onGroup_self], b⟩

theorem State.freeBus_down (s : State) (g : GroupId) :
    ((s.freeBus g).group g).down.stalled = (s.group g).down.stalled ∧
      ((s.freeBus g).group g).down.lastAck = (s.group g).down.lastAck := by
  unfold State.freeBus
  obtain ⟨a, b⟩ := State.arbitrate_down
    (s.onGroup g fun x =>
      { x with owner := .idle, burst := none, down := { x.down with selected := none, wait := none } }) g
  rw [a, b, State.group_onGroup_self]
  exact ⟨rfl, rfl⟩

theorem State.returnBus_up {s : State} {g : GroupId} (h : (s.group g).waiting = none) :
    ((s.returnBus g).group g).up = (s.group g).up ∧ ((s.returnBus g).group g).waiting = none := by
  unfold State.returnBus
  split
  · split
    · simp [h]
    · exact State.freeBus_up h
  · exact ⟨rfl, h⟩

theorem State.returnBus_down (s : State) (g : GroupId) :
    ((s.returnBus g).group g).down.stalled = (s.group g).down.stalled ∧
      ((s.returnBus g).group g).down.lastAck = (s.group g).down.lastAck := by
  unfold State.returnBus
  split
  · split
    · simp
    · exact s.freeBus_down g
  · exact ⟨rfl, rfl⟩

/-- R24: a bus given back, of a cage that has left SERVING or HELD, its slot `mine` as it stands. -/
theorem State.returnBus_yields {s v : State} {k : CageId}
    (ho : (v.group (groupOf k)).owner = .host k false) (hw : (s.group (groupOf k)).waiting = none)
    (e : (v.group (groupOf k)).waiting = (s.group (groupOf k)).waiting)
    (l : (v.group (groupOf k)).lastServed = (s.group (groupOf k)).lastServed)
    (d : (v.group (groupOf k)).down.stalled = (s.group (groupOf k)).down.stalled)
    (slots : ∀ j, j ≠ k → (v.cage j).slot = (s.cage j).slot) (mine : (v.cage k).slot ≠ .running) :
    s.YieldsBus (v.returnBus (groupOf k)) k false True := by
  have give := v.returnBus_givesBack (groupOf k)
  have down := v.returnBus_down (groupOf k)
  refine ⟨fun _ h => ?_, fun h => ⟨?_, ?_⟩, fun h _ => ?_⟩
  · rw [give.stalls k false ho (by rw [d, h])]
    exact ⟨rfl, by rw [d, h]⟩
  · rw [down.1, d]
    exact h.resolve_left nofun
  · exact (give.passes k false ho (by rw [d]; exact h.resolve_left nofun)).passedOn
  · have c := give.passes k false ho (by rw [d]; exact h.resolve_left nofun)
    have eq : (fun n => if cageAt (groupOf k) n = k then (v.cage k).slot else (s.cage (cageAt (groupOf k) n)).slot) =
        fun n => (v.cage (cageAt (groupOf k) n)).slot := by
      funext n
      split
      · rename_i q
        rw [q]
      · rename_i q
        exact (slots _ q).symm
    refine ⟨(v.cage k).slot, ?_, ?_⟩
    · rcases hs : (v.cage k).slot with _ | ⟨a, r⟩ | _
      · exact .inl rfl
      · refine .inr ⟨a, r, rfl, ?_⟩
        unfold State.returnBus
        rw [ho]
        dsimp only
        rw [if_neg (by rw [d, h.resolve_left nofun]; exact nofun)]
        exact State.arbitrate_wants (.inr hs)
      · exact absurd hs mine
    · rw [eq]
      have w : ((s.withoutWaiter k).group (groupOf k)).waiting = none := by
        simp [State.withoutWaiter, hw]
      have ls : ((s.withoutWaiter k).group (groupOf k)).lastServed = (v.group (groupOf k)).lastServed := by
        simp [State.withoutWaiter, l]
      refine ⟨fun x i => ?_, fun n a r _ f => ?_, fun _ n => ?_⟩
      · rw [w] at i
        cases i
      · rw [ls] at f
        exact c.request n a r (e.trans hw) f
      · rw [ls]
        exact c.nobody (e.trans hw) n

/-- R10, R23, R24: cage `k` has left SERVING or HELD for the state it has in `u`, its bus meanwhile standing as in `s`: a host of it that
waits is answered, and a transaction of it that holds the bus loses it. -/
theorem State.leaveService_leaves {s u : State} {k : CageId} (stands : BusStands k s u)
    (bel : (u.cage k).ctx.belief = (s.cage k).ctx.belief) (away : (u.cage k).seq.state.inService = false) :
    s.LeavesService (u.leaveService k) k false false True := by
  obtain ⟨b, -, same⟩ := u.leaveService_cage k
  have path : ∀ x, (u.leaveService k).pathAway k x = u.pathAway k x := fun x =>
    State.pathAway_congr x (by rw [same.seq]) (by rw [same.ctx]) (by rw [same.ctx])
      (CageAndBus.leaveService (.refl k u)).device.straps
  refine ⟨fun x w cur hold wait wk own => ?_, fun own wait burst slot => ?_⟩
  · obtain ⟨b, ug, -⟩ := stands.group own
    have uc : u.current (groupOf k) = some (k, x) := by
      rw [← cur]
      exact State.current_congr (by rw [ug])
    have uw : (u.group (groupOf k)).waiting = some w := by rw [ug, wait]
    generalize hp : (u.leaveService k).pathAway k x = p
    have hn : u.pathNow k x.path.isModule x.read = p := by rw [State.pathNow_away x away, ← path, hp]
    have rel : p.isRelayed = false := by rw [← hp]; exact State.pathAway_relayed ..
    clear hp path
    unfold State.leaveService State.answerWaiting
    dsimp only
    rw [uw]
    dsimp only
    rw [if_pos wk, uc]
    dsimp only
    rw [hn]
    generalize hv : (u.stopWaiting (groupOf k)).answerOn (groupOf k) p = v
    have tr := State.current_eq.1 uc
    have vw : (v.group (groupOf k)).waiting = none := by
      rw [← hv]
      simp [State.answerOn, State.answer, State.onTransfer, State.stopWaiting]
    have vu : (v.group (groupOf k)).up =
        { transaction := some { cage := some k, transfer := some { x with path := p, hold := .none, cut := none } }
          answer := p.reply } := by
      rw [← hv, Path.reply_eq]
      simp [State.answerOn, State.answer, State.onTransfer, State.stopWaiting, tr]
    have vc : v.current (groupOf k) = some (k, { x with path := p, hold := .none, cut := none }) :=
      State.current_eq.2 (by rw [vu])
    have out : ∀ t : State, (t.group (groupOf k)).up = (v.group (groupOf k)).up → (t.group (groupOf k)).waiting = none →
        (t.group (groupOf k)).waiting = none ∧ (t.group (groupOf k)).up.answer = p.reply ∧
          t.current (groupOf k) =
            some (k, { x with path := p, hold := .none, cut := none, moduleGone := x.moduleGone || false }) :=
      fun t e f => ⟨f, by rw [e, vu], State.current_eq.2 (by rw [e, vu, Bool.or_false])⟩
    split
    · split
      · unfold State.cutOwner
        rw [vc]
        dsimp only
        rw [if_neg (by rw [rel]; exact nofun)]
        exact out _ (State.returnBus_up vw).1 (State.returnBus_up vw).2
      · exact out _ rfl vw
    · exact out _ rfl vw
  · have busy : (s.group (groupOf k)).owner ≠ .idle := by rw [own]; exact nofun
    have ug : u.group (groupOf k) = s.group (groupOf k) := by
      obtain ⟨b, ug, n⟩ := stands.group busy
      rw [ug, n burst, ← burst]
    have slots := stands.slots busy
    have mine := stands.mine busy slot
    have curr : ∀ {x}, s.current (groupOf k) = some (k, x) → u.current (groupOf k) = some (k, x) := fun h => by
      rw [← h]
      exact State.current_congr (by rw [ug])
    have leave : u.leaveService k = u.cutOwner (groupOf k) k := by
      unfold State.leaveService State.answerWaiting
      dsimp only
      rw [ug, wait]
      dsimp only
      rw [ug, own]
      dsimp only
      rw [if_pos rfl]
    have yields : ∀ v : State, (v.group (groupOf k)).owner = (u.group (groupOf k)).owner →
        (v.group (groupOf k)).waiting = (u.group (groupOf k)).waiting →
        (v.group (groupOf k)).lastServed = (u.group (groupOf k)).lastServed →
        (v.group (groupOf k)).down.stalled = (u.group (groupOf k)).down.stalled →
        (∀ j, (v.cage j).slot = (u.cage j).slot) → s.YieldsBus (v.returnBus (groupOf k)) k false True :=
      fun v a c d e f => State.returnBus_yields (by rw [a, ug, own]) wait (by rw [c, ug]) (by rw [d, ug]) (by rw [e, ug])
        (fun j n => by rw [f, slots j n]) (by rw [f]; exact mine)
    have up : ∀ v : State, (v.group (groupOf k)).waiting = (u.group (groupOf k)).waiting →
        ((v.returnBus (groupOf k)).group (groupOf k)).up = (v.group (groupOf k)).up := fun v a =>
      (State.returnBus_up (by rw [a, ug, wait])).1
    refine ⟨fun h => ?_, fun x cur hold rel => ?_, fun x cur hold => ?_, fun x cur hold r1 r2 => ?_,
      fun x cur h1 h2 h3 nst => ?_⟩
    · have none : u.current (groupOf k) = none := by
        unfold State.current
        rw [ug, h]
      rw [leave]
      unfold State.cutOwner
      rw [none]
      dsimp only
      exact ⟨by rw [up u rfl, ug], yields u rfl rfl rfl rfl fun _ => rfl⟩
    · generalize hp : (u.leaveService k).pathAway k x = p
      have hn : u.pathNow k x.path.isModule x.read = p := by rw [State.pathNow_away x away, ← path, hp]
      have cut : u.leaveService k = u.cutNow (groupOf k) k x p := by
        rw [leave]
        unfold State.cutOwner
        rw [curr cur]
        dsimp only
        rw [hold]
        dsimp only
        rw [if_pos (by rcases rel with e | e <;> rw [e] <;> rfl), hn]
      have tr := State.current_eq.1 (curr cur)
      have cc : u.concludeDown (groupOf k) k = (u.onCtx k fun c =>
          { c with belief := c.belief.map (·.select x.bankSet x.pageSet) }).onTransfer (groupOf k) fun y =>
          { y with bankSet := none, pageSet := none } := by
        unfold State.concludeDown
        rw [curr cur]
      rw [cut]
      unfold State.cutNow
      dsimp only
      generalize hW : State.onTransfer _ _ _ = W
      have fields : (W.group (groupOf k)).owner = (u.group (groupOf k)).owner ∧
          (W.group (groupOf k)).waiting = (u.group (groupOf k)).waiting ∧
          (W.group (groupOf k)).lastServed = (u.group (groupOf k)).lastServed ∧
          (W.group (groupOf k)).down.stalled = (u.group (groupOf k)).down.stalled ∧
          (x.read = true → x.relay = .live → (W.group (groupOf k)).down.lastAck = false) ∧
          (W.group (groupOf k)).up =
            { transaction :=
                some
                  { cage := some k
                    transfer :=
                      some
                        { x with
                          path := p, cut := none, moduleGone := x.moduleGone || false
                          relay := if x.relay = .stalled then .live else x.relay
                          bankSet := if x.relay = .live then none else x.bankSet
                          pageSet := if x.relay = .live then none else x.pageSet } }
              answer := (u.group (groupOf k)).up.answer } := by
        rw [← hW]
        rcases hr : x.relay <;> rcases hd : x.read <;>
          simp [State.endDown, cc, State.onTransfer, State.select, State.setLastAck, tr, Relay.afterCut, hr, hd]
      have wslot : ∀ j, (W.cage j).slot = (u.cage j).slot := fun j => by
        have e : ∀ f : Context → Context, ((u.onCtx k f).cage j).slot = (u.cage j).slot := fun f => by
          rw [State.cage_onCtx]
          split
          · rename_i q; subst q; rfl
          · rfl
        rw [← hW]
        rcases hr : x.relay <;> rcases hd : x.read <;>
          simp [State.endDown, cc, State.onTransfer, State.select, State.setLastAck, e]
      have wbel : (W.cage k).ctx.belief = if x.relay = .live then
            (u.cage k).ctx.belief.map fun f => { f with bank := x.bankSet.getD f.bank, page := x.pageSet.getD f.page }
          else (u.cage k).ctx.belief := by
        rw [← hW]
        rcases hr : x.relay <;> rcases hd : x.read <;>
          simp [State.endDown, cc, State.onTransfer, State.select, State.setLastAck, Belief.select]
      obtain ⟨f1, f2, f3, f4, f5, f6⟩ := fields
      refine ⟨State.current_eq.2 (by rw [up W f2, f6]), by rw [up W f2, f6, ug], fun r l => ?_, fun _ _ => ?_, yields W f1 f2 f3 f4 wslot⟩
      · rw [(State.returnBus_down W _).2, f5 r l]
      · rw [((BusOnly.returnBus (.refl (groupOf k) W)).cages k).ctx, wbel, bel]
    · generalize hp : (u.leaveService k).pathAway k x = p
      have hn : u.pathNow k x.path.isModule x.read = p := by rw [State.pathNow_away x away, ← path, hp]
      have tr := State.current_eq.1 (curr cur)
      rw [leave]
      unfold State.cutOwner
      rw [curr cur]
      dsimp only
      rw [hold]
      dsimp only
      rw [hn]
      refine ⟨State.current_eq.2 ?_, ?_, yields _ ?_ ?_ ?_ ?_ fun _ => rfl⟩
      · rw [up _ (by simp [State.answerOn, State.answer, State.onTransfer])]
        simp [State.answerOn, State.answer, State.onTransfer, tr]
      · rw [up _ (by simp [State.answerOn, State.answer, State.onTransfer]), Path.reply_eq]
        simp [State.answerOn, State.answer, State.onTransfer]
      all_goals simp [State.answerOn, State.answer, State.onTransfer]
    · have rel : x.path.isRelayed = false := by
        rcases hx : x.path <;> first | rfl | exact absurd hx r1 | exact absurd hx r2
      rw [leave]
      unfold State.cutOwner
      rw [curr cur]
      dsimp only
      rw [hold]
      dsimp only
      rw [if_neg (by rw [rel]; exact nofun)]
      refine ⟨State.current_eq.2 ?_, by rw [up u rfl, ug], yields u rfl rfl rfl rfl fun _ => rfl⟩
      rw [up u rfl, State.current_eq.1 (curr cur), Bool.or_false, ← hold]
    · generalize hp : (u.leaveService k).pathAway k x = p
      have hn : u.pathNow k x.path.isModule x.read = p := by rw [State.pathNow_away x away, ← path, hp]
      have tr := State.current_eq.1 (curr cur)
      have e : u.leaveService k = u.onTransfer (groupOf k) fun y => { y with cut := some p } := by
        rw [leave]
        unfold State.cutOwner
        rw [curr cur]
        dsimp only
        rcases hh : x.hold with _ | _ | _ | j | _ | _ | _ | _ <;> first | exact absurd hh h1 | exact absurd hh h2 | exact absurd hh h3 | (dsimp only; rw [hn])
      rw [e]
      refine ⟨State.current_eq.2 ?_, ?_⟩
      · simp only [State.onTransfer, State.group_onGroup_self, tr, Option.map_some]
        rcases hh : x.hold with _ | _ | _ | j | _ | _ | _ | _ <;> simp
      · simp only [State.onTransfer, State.group_onGroup_self, ug]

/-- R112: a recovery that begins in SERVING or HELD leaves the context, and the cage is in BOOTING. -/
theorem State.departService_cage (s : State) (k : CageId) (kind : RecoveryKind) :
    ((s.departService k kind).cage k).ctx = (s.cage k).ctx ∧ ((s.departService k kind).cage k).seq.state = .booting := by
  refine ⟨?_, by unfold State.departService; rw [State.cage_onSeq_self]; rfl⟩
  unfold State.departService State.startRecovery State.setDim
  split <;> simp [State.endLight, State.endOps, State.latch, Cage.latch]

/-- R112: a recovery that begins in SERVING or HELD takes the bus from the hosts of the cage. -/
theorem State.recoverFromService_leaves (s : State) (k : CageId) (kind : RecoveryKind) :
    s.LeavesService (s.recoverFromService k kind) k false false True := by
  obtain ⟨ctx, state⟩ := s.departService_cage k kind
  obtain ⟨w, p, b⟩ := (s.departService k kind).beginBootWait_cage k
  refine State.leaveService_leaves (BusStands.refl k s).departService.beginBootWait ?_ ?_
  · rw [b.ctx, ctx]
  · rw [b.seq]
    change ((s.departService k kind).cage k).seq.state.inService = false
    rw [state]
    rfl

end Sys2Proof.Machine
end

