-- ==== Sys2Proof/Laws/PerInstr.lean ====
section
/-! SUPPORT. A statement made of every command as syntax, proved one command at a time: which operands are well formed. -/

namespace Sys2Proof.Laws

/-- The operands a command's rule allows, beyond their types: a code R188's table does not have; an offset in the upper area, where a
control page's bytes lie (R8); and on the CTRL page no byte whose write is a row of its own. -/
def OperandsAllowed : Instr → Prop
  | .unknownCommand _ code => code = 0#8 ∨ 12 ≤ code.toNat
  | .profileFieldWrite _ offset _ => 128 ≤ offset.toNat
  | .settingWrite _ .ctrl offset _ =>
    128 ≤ offset.toNat ∧ offset.toNat ∉ [131, 132, 137, 183, 184, 185, 186, 196, 234, 236, 237]
  | .settingWrite _ .window offset _ => 128 ≤ offset.toNat
  | _ => True

namespace WellFormedOperands

/-- The check accepts a command exactly when its rule allows its operands. -/
def Statement (i : Instr) : Prop := wellFormed i = true ↔ OperandsAllowed i

theorem start (g : GroupId) (selects : BitVec 4) : Statement (.start g selects) := Iff.intro (fun _ => trivial) fun _ => rfl

theorem repeatedStart (g : GroupId) : Statement (.repeatedStart g) := Iff.intro (fun _ => trivial) fun _ => rfl

theorem stop (g : GroupId) : Statement (.stop g) := Iff.intro (fun _ => trivial) fun _ => rfl

theorem addressByte (g : GroupId) (address : BitVec 7) (read : Bool) : Statement (.addressByte g address read) := Iff.intro (fun _ => trivial) fun _ => rfl

theorem offsetByte (g : GroupId) (offset : Byte) : Statement (.offsetByte g offset) := Iff.intro (fun _ => trivial) fun _ => rfl

theorem writeDataByte (g : GroupId) (value : Byte) : Statement (.writeDataByte g value) := Iff.intro (fun _ => trivial) fun _ => rfl

theorem readDataByte (g : GroupId) (hostAck : Bool) : Statement (.readDataByte g hostAck) := Iff.intro (fun _ => trivial) fun _ => rfl

theorem moduleAnswer (g : GroupId) (ack : Bool) (data : Byte) : Statement (.moduleAnswer g ack data) := Iff.intro (fun _ => trivial) fun _ => rfl

theorem moduleStall (g : GroupId) : Statement (.moduleStall g) := Iff.intro (fun _ => trivial) fun _ => rfl

theorem moduleReleasesDscl (g : GroupId) : Statement (.moduleReleasesDscl g) := Iff.intro (fun _ => trivial) fun _ => rfl

theorem hostWaitExpiry (g : GroupId) : Statement (.hostWaitExpiry g) := Iff.intro (fun _ => trivial) fun _ => rfl

theorem abandoned (g : GroupId) : Statement (.abandoned g) := Iff.intro (fun _ => trivial) fun _ => rfl

theorem burstEnd (g : GroupId) : Statement (.burstEnd g) := Iff.intro (fun _ => trivial) fun _ => rfl

theorem retryIntervalExpiry (k : CageId) (agent : Agent) : Statement (.retryIntervalExpiry k agent) := Iff.intro (fun _ => trivial) fun _ => rfl

theorem rise (k : CageId) : Statement (.rise k) := Iff.intro (fun _ => trivial) fun _ => rfl

theorem dropDuringSettle (k : CageId) : Statement (.dropDuringSettle k) := Iff.intro (fun _ => trivial) fun _ => rfl

theorem bounce (k : CageId) : Statement (.bounce k) := Iff.intro (fun _ => trivial) fun _ => rfl

theorem settleQualification (k : CageId) : Statement (.settleQualification k) := Iff.intro (fun _ => trivial) fun _ => rfl

theorem unacceptedRemoval (k : CageId) : Statement (.unacceptedRemoval k) := Iff.intro (fun _ => trivial) fun _ => rfl

theorem drop (k : CageId) : Statement (.drop k) := Iff.intro (fun _ => trivial) fun _ => rfl

theorem glitch (k : CageId) : Statement (.glitch k) := Iff.intro (fun _ => trivial) fun _ => rfl

theorem qualifiedRemoval (k : CageId) : Statement (.qualifiedRemoval k) := Iff.intro (fun _ => trivial) fun _ => rfl

theorem mirqChange (k : CageId) (asserted : Bool) : Statement (.mirqChange k asserted) := Iff.intro (fun _ => trivial) fun _ => rfl

theorem resetPulseEnd (k : CageId) : Statement (.resetPulseEnd k) := Iff.intro (fun _ => trivial) fun _ => rfl

theorem bootTimeout (k : CageId) : Statement (.bootTimeout k) := Iff.intro (fun _ => trivial) fun _ => rfl

theorem bootDelay (k : CageId) : Statement (.bootDelay k) := Iff.intro (fun _ => trivial) fun _ => rfl

theorem rampTimeout (k : CageId) : Statement (.rampTimeout k) := Iff.intro (fun _ => trivial) fun _ => rfl

theorem rampDelay (k : CageId) : Statement (.rampDelay k) := Iff.intro (fun _ => trivial) fun _ => rfl

theorem pollTimerExpiry (k : CageId) : Statement (.pollTimerExpiry k) := Iff.intro (fun _ => trivial) fun _ => rfl

theorem settleWaitEnd (k : CageId) : Statement (.settleWaitEnd k) := Iff.intro (fun _ => trivial) fun _ => rfl

theorem servingCheck (k : CageId) : Statement (.servingCheck k) := Iff.intro (fun _ => trivial) fun _ => rfl

theorem concealTimerExpiry (k : CageId) : Statement (.concealTimerExpiry k) := Iff.intro (fun _ => trivial) fun _ => rfl

theorem revealMinimumExpiry (k : CageId) : Statement (.revealMinimumExpiry k) := Iff.intro (fun _ => trivial) fun _ => rfl

theorem sampleTimerExpiry (k : CageId) : Statement (.sampleTimerExpiry k) := Iff.intro (fun _ => trivial) fun _ => rfl

theorem lightTimeout (k : CageId) : Statement (.lightTimeout k) := Iff.intro (fun _ => trivial) fun _ => rfl

theorem probeTimerExpiry (k : CageId) : Statement (.probeTimerExpiry k) := Iff.intro (fun _ => trivial) fun _ => rfl

theorem resume (k : CageId) : Statement (.resume k) := Iff.intro (fun _ => trivial) fun _ => rfl

theorem adopt (k : CageId) : Statement (.adopt k) := Iff.intro (fun _ => trivial) fun _ => rfl

theorem forceReplay (k : CageId) : Statement (.forceReplay k) := Iff.intro (fun _ => trivial) fun _ => rfl

theorem release (k : CageId) : Statement (.release k) := Iff.intro (fun _ => trivial) fun _ => rfl

theorem moduleReset (k : CageId) : Statement (.moduleReset k) := Iff.intro (fun _ => trivial) fun _ => rfl

theorem cageClear (k : CageId) : Statement (.cageClear k) := Iff.intro (fun _ => trivial) fun _ => rfl

theorem bindProfile (k : CageId) (profile : Byte) : Statement (.bindProfile k profile) := Iff.intro (fun _ => trivial) fun _ => rfl

theorem own (k : CageId) (line owner : Byte) : Statement (.own k line owner) := Iff.intro (fun _ => trivial) fun _ => rfl

theorem line (k : CageId) (line level : Byte) : Statement (.line k line level) := Iff.intro (fun _ => trivial) fun _ => rfl

theorem snapshotCage (k : CageId) : Statement (.snapshotCage k) := Iff.intro (fun _ => trivial) fun _ => rfl

theorem snapshotDevice (k : CageId) : Statement (.snapshotDevice k) := Iff.intro (fun _ => trivial) fun _ => rfl

theorem setMode (k : CageId) (mode : Byte) : Statement (.setMode k mode) := Iff.intro (fun _ => trivial) fun _ => rfl

theorem unknownCommand (k : CageId) (code : Byte) : Statement (.unknownCommand k code) := by
  simp only [Statement, wellFormed, commandCodeKnown, OperandsAllowed, Bool.not_eq_true', Bool.and_eq_false_iff,
    decide_eq_false_iff_not]
  constructor
  · rintro (h | h)
    · exact .inl (BitVec.eq_of_toNat_eq (by simp; omega))
    · exact .inr (by omega)
  · rintro (h | h)
    · exact .inl (by rw [h]; decide)
    · exact .inr (by omega)

theorem flagClear (k : CageId) (which : FlagByte) (value : Byte) : Statement (.flagClear k which value) := Iff.intro (fun _ => trivial) fun _ => rfl

theorem enableWrite (k : CageId) (which : FlagByte) (value : Byte) : Statement (.enableWrite k which value) := Iff.intro (fun _ => trivial) fun _ => rfl

theorem budgetWrite (value : Byte) : Statement (.budgetWrite value) := Iff.intro (fun _ => trivial) fun _ => rfl

theorem quotaWrite (k : CageId) (value : Byte) : Statement (.quotaWrite k value) := Iff.intro (fun _ => trivial) fun _ => rfl

theorem selectOffsetWrite (p : ProfileId) (bank : Bool) (value : Byte) : Statement (.selectOffsetWrite p bank value) := Iff.intro (fun _ => trivial) fun _ => rfl

theorem thresholdWrite (p : ProfileId) (lit : Bool) (value : Byte) : Statement (.thresholdWrite p lit value) := Iff.intro (fun _ => trivial) fun _ => rfl

theorem windowSelectorWrite (k : CageId) (index : Bool) (value : Byte) : Statement (.windowSelectorWrite k index value) := Iff.intro (fun _ => trivial) fun _ => rfl

theorem profileFieldWrite (k : CageId) (offset value : Byte) : Statement (.profileFieldWrite k offset value) := by
  simp [Statement, wellFormed, controlOffset, OperandsAllowed]

theorem settingWrite (k : CageId) (page : ControlPage) (offset value : Byte) : Statement (.settingWrite k page offset value) := by
  cases page <;> simp [Statement, wellFormed, controlOffset, ownRowOffset, OperandsAllowed]

theorem resetNAssertion : Statement .resetNAssertion := Iff.intro (fun _ => trivial) fun _ => rfl

theorem startUp (maddr mode : Bool) (cpage : BitVec 2) : Statement (.startUp maddr mode cpage) := Iff.intro (fun _ => trivial) fun _ => rfl

end WellFormedOperands

end Sys2Proof.Laws
end

