-- ==== Sys2Proof/Tests/Slice0.lean ====
section
/-! SUPPORT. Own tests: the operand checks, one or two steps of each command with the result its rule gives, and a state and
operands that meet the hypotheses of each statement. -/

namespace Sys2Proof.Tests

open Sys2Proof.Machine

/-! ## Small states -/

/-- The state a command leaves. -/
def after (s : State) (c : Instr) : State :=
  match exec c s with
  | .next t => t
  | .fault _ | .refused _ => s

/-- The part after start-up with cage 0 changed. -/
def cage0 (f : Cage → Cage) : State := State.reset.onCage 0 f

/-- Cage 0 in a sequencer state, its module present. -/
def inState (q : SeqState) : State :=
  cage0 fun c =>
    { c with
      seq := { c.seq with state := q }
      qual := { c.qual with phase := .present, present := true } }

/-- The same with the sequencer changed further. -/
def seqState (q : SeqState) (f : Sequencer → Sequencer) : State :=
  (inState q).onCage 0 fun c => { c with seq := f c.seq }

/-- Cage 0's qualifier in a phase, with its timer. -/
def inPhase (p : Phase) (d : Nat) (q : SeqState) : State :=
  (inState q).onCage 0 fun c =>
    { c with qual := { c.qual with phase := p, timer := some { duration := d, elapsed := 0 } } }

/-- A transfer past its offset byte, at bank 0 and page 0. -/
def transfer (read : Bool) (path : Path) : Transfer :=
  { address := 80#7, read := read, path := path, relay := .live, hold := .none, offsetSeen := true, ended := false,
    refusing := false, bank := 0#8, page := 0#8, bankSet := none, pageSet := none, relayed := [],
    posted := [], gap := false, readBytes := [], moduleGone := false, resetSeen := false, capture := none, cut := none }

/-- A transfer of cage 0 on the upstream port of group 0. -/
def onPort (s : State) (x : Transfer) : State :=
  s.onGroup 0 fun g =>
    { g with up := { transaction := some { cage := some 0, transfer := some x }, answer := .released } }

/-- A forwarded transfer of cage 0 in SERVING, one byte on the downstream bus. -/
def onBus (x : Transfer) (h : Hold) : State :=
  (onPort ((inState .serving).onCage 0 fun c =>
    { c with ctx := { c.ctx with belief := some { bank := 0#8, page := 0#8, ptr := 255#8 } } })
    { x with hold := h }).onGroup 0 fun g =>
    { g with
      owner := .host 0 false
      down := { g.down with selected := some 0, wait := some { duration := 50, elapsed := 3 } } }

/-- A RETAIN record of lower block 1 with one byte at its first position. -/
def record (m : Mark) : Record :=
  { key := .lower 1, cls := .retain, cells := (Vector.replicate 8 none).set 0 (some 7#8), mark := m }

/-- Cage 0 with that record as its journal. -/
def withRecord (s : State) (m : Mark) : State :=
  s.onCage 0 fun c => { c with journal := { c.journal with list := [record m] } }

/-- The location the record holds. -/
def spot : Location := { area := .lower, bank := 0#8, page := 0#8, offset := 8#8 }

/-- Profile 0 changed. -/
def profile0 (s : State) (f : Profile → Profile) : State :=
  { s with profiles := s.profiles.set 0 (f (s.profile 0)) }

/-- Profile 0 with the record's location as probe, ready and lane 0 location. -/
def ready (s : State) : State :=
  profile0 s fun p =>
    { p with
      probe := { present := true, loc := spot }
      ready := { present := true, loc := spot, mask := 1#8, value := 1#8 }
      lane := { p.lane with count := 8, lane0 := { present := true, loc := spot }, required := 128#8 } }

def probeRequest : Request :=
  { purpose := .probe, target := { loc := spot, length := 1 }, data := none }

/-- A burst of cage 0 that has ended complete with one byte. -/
def endedBurst (agent : Agent) (v : Byte) (orphan : Bool) : Burst :=
  { cage := 0, agent := agent, request := probeRequest, bankSelect := some 126#8, pageSelect := 127#8,
    bank := 0#8, page := 0#8, phase := .ended,
    job :=
      { current := [], later := [], cursor := 0#8, bankSet := none, pageSet := none, full := false,
        goal := { bank := 0#8, page := 0#8, ptr := 0#8 } },
    outcome := some .complete, restoreFailed := none, acked := 1, received := [v], orphan := orphan,
    spoiled := false, aborting := false, blind := false }

def withBurst (s : State) (b : Burst) : State :=
  (s.onCage 0 fun c => { c with slot := .running }).onGroup 0 fun g =>
    { g with owner := .burst 0, burst := some b }

/-- Cage 0 in SERVING with a probe of an APPLIED byte whose burst has ended with `v`. -/
def probed (v : Byte) : State :=
  withBurst
    ((withRecord (inState .serving) .applied).onCage 0 fun c =>
      { c with ops := { c.ops with probe := some { glitch := true, loc := spot, failures := 0 } } })
    (endedBurst .sequencer v false)

/-- A burst of cage 0 with one byte of its transfer on the bus. -/
def sending (s : State) (b : Burst) : State :=
  (withBurst s b).onGroup 0 fun g =>
    { g with down := { g.down with selected := some 0, wait := some { duration := 50, elapsed := 3 } } }

/-- The probe's burst in a phase, with a byte on the bus and the rest of its transfers. -/
def inBurst (p : BurstPhase) (current : List DownByte) (later : List (List DownByte)) : Burst :=
  let b := endedBurst .sequencer 0#8 false
  { b with
    phase := p, outcome := none, acked := 0, received := []
    job := { b.job with current := current, later := later, full := true } }

/-- A burst that has ended with an outcome and bytes, for a purpose. -/
def reported (p : Purpose) (a : Agent) (o : BurstOutcome) (bytes : List Byte) : Burst :=
  { endedBurst a 0#8 false with
    request := { probeRequest with purpose := p, target := { loc := spot, length := bytes.length } }
    outcome := some o
    received := bytes }

/-- A late timer. -/
def late (n : Nat) : Timer := { duration := n, elapsed := n }

/-- A working part: cage 0 in SERVING with a charge, a grant, a journal and a cache line; cage 1 and cage 2 waiting for
power; a saturated counter; a latched flag and ALERT; a command waiting. -/
def busy : State :=
  let s := withRecord (cage0 fun c =>
    { c with
      seq := { c.seq with state := .serving }
      qual := { c.qual with phase := .present, present := true, interrupt := true }
      ledger := { c.ledger with charge := 18, grant := true, computed := some 18 }
      events := { c.events with flags := 1#9, counters := c.events.counters.set 20 65535 } }) .applied
  { (s.onCage 1 fun c =>
      { c with
        seq := { c.seq with state := .admitting }
        ledger := { c.ledger with charge := 6, computed := some 400 } }) with
    committed := 24
    cache := [{ owner := 0, key := .lower 0, kind := .live, state := .valid, cells := emptyOctet }]
    queue := [{ cage := 1, priority := 3, passed := 7 }, { cage := 2, priority := 3, passed := 0 }]
    alert := true
    pending := [.rise 4] }

/-! ## Operand checks -/

theorem test_known_code_refused : wellFormed (.unknownCommand 0 1#8) = false ∧ wellFormed (.unknownCommand 0 11#8) = false := by
  decide

theorem test_unknown_code_taken : wellFormed (.unknownCommand 0 0#8) = true ∧ wellFormed (.unknownCommand 0 12#8) = true := by
  decide

theorem test_field_in_lower_area_refused : wellFormed (.profileFieldWrite 0 127#8 0#8) = false := by decide

theorem test_window_byte_in_lower_area_refused : wellFormed (.settingWrite 0 .window 127#8 0#8) = false := by decide

theorem test_setting_in_lower_area_refused : wellFormed (.settingWrite 0 .ctrl 127#8 0#8) = false := by decide

theorem test_setting_at_own_row_refused : wellFormed (.settingWrite 0 .ctrl 234#8 0#8) = false := by decide

theorem test_setting_taken : wellFormed (.settingWrite 0 .ctrl 146#8 0#8) = true := by decide

theorem test_no_word_spells_a_command : decodeTableWord 32 0 = none := by decide

/-! ## The upstream ports -/

theorem test_start_names_the_cage :
    ((after .reset (.start 1 4#4)).group 1).up.transaction = some { cage := some 6, transfer := none } := by decide

theorem test_start_with_two_selects :
    (after .reset (.start 1 5#4)).flags = 1#3 ∧ (after .reset (.start 1 5#4)).counters[3] = 1 := by decide

/-- R18, R19: a vacant cage acknowledges a write and refuses a read. -/
theorem test_address_of_a_vacant_cage :
    ((after (after .reset (.start 0 1#4)) (.addressByte 0 80#7 false)).group 0).up.answer = .ack ∧
      ((after (after .reset (.start 0 1#4)) (.addressByte 0 80#7 true)).group 0).up.answer = .nack := by decide

/-- R4, R13: the module of a foreign-address transfer sees the address that the host sent. -/
theorem test_foreign_address_goes_downstream :
    (after (after (inState .serving) (.start 0 1#4)) (.addressByte 0 81#7 true)).wire 0 = some (.address 81#7 true) := by
  decide

/-- R23: the address waits behind a burst. -/
theorem test_address_waits_for_a_burst :
    ((after (withBurst (after (inState .serving) (.start 0 1#4)) (endedBurst .monitor 0#8 true))
      (.addressByte 0 80#7 false)).group 0).waiting =
        some { cage := 0, timer := { duration := 20, elapsed := 0 } } := by decide

theorem test_offset_sets_the_pointer :
    ((after (onPort .reset { transfer false .uncovered with offsetSeen := false }) (.offsetByte 0 200#8)).cage 0).ctx.hostPtr =
      200#8 := by decide

/-- R1: the pointer wraps from 255 to 128. R18: the byte is not acknowledged. -/
theorem test_write_wraps_and_is_refused :
    let t := after ((onPort .reset (transfer false .uncovered)).onCtx 0 fun x => { x with hostPtr := 255#8 })
      (.writeDataByte 0 1#8)
    (t.cage 0).ctx.hostPtr = 128#8 ∧ (t.group 0).up.answer = .nack := by decide

/-- R16: a posted byte is acknowledged and counted. -/
theorem test_write_concealed_is_posted :
    ((after (onPort (inState .booting) (transfer false .concealed)) (.writeDataByte 0 1#8)).cage 0).events.counters[7] = 1 := by
  decide

/-- R17: a concealed read that nothing holds answers 0xFF and counts a miss. -/
theorem test_read_concealed_miss :
    let t := after (onPort (inState .booting) (transfer true .concealed)) (.readDataByte 0 true)
    (t.group 0).up.answer = .data 255#8 ∧ (t.cage 0).events.counters[9] = 1 := by decide

/-- R17: the journal answers before the cache. -/
theorem test_read_concealed_from_the_journal :
    ((after ((onPort (withRecord (inState .booting) .pending) (transfer true .concealed)).onCtx 0 fun x =>
      { x with hostPtr := 8#8 }) (.readDataByte 0 true)).group 0).up.answer = .data 7#8 := by decide

/-- R6: a pending page takes effect at the end of its transfer. -/
theorem test_repeated_start_takes_the_page :
    let t := after ((onPort .reset (transfer false .uncovered)).onCtx 0 fun x => { x with pendingPage := some 3#8 })
      (.repeatedStart 0)
    (t.cage 0).ctx.shadowPage = 3#8 ∧
      (t.group 0).up.transaction = some { cage := some 0, transfer := none } := by decide

theorem test_stop_ends_the_transaction :
    ((after (onPort .reset (transfer false .uncovered)) (.stop 0)).group 0).up.transaction = none := by decide

/-! ## The downstream ports -/

/-- R7: an acknowledged offset byte sets the believed pointer. -/
theorem test_answered_offset_moves_the_belief :
    ((after (onBus (transfer false .forwarded) (.offset 9#8)) (.moduleAnswer 0 true 0#8)).cage 0).ctx.belief =
      some { bank := 0#8, page := 0#8, ptr := 9#8 } := by decide

/-- R12: a read byte goes up as the module gave it. -/
theorem test_answered_read_byte :
    ((after (onBus (transfer true .forwarded) (.read 9#8 true)) (.moduleAnswer 0 true 90#8)).group 0).up.answer =
      .data 90#8 := by decide

theorem test_stall_unsettles_the_belief :
    let t := after (onBus (transfer true .forwarded) (.read 9#8 true)) (.moduleStall 0)
    (t.cage 0).ctx.belief = none ∧ (t.cage 0).events.counters[12] = 1 ∧ (t.group 0).up.answer = .data 255#8 := by
  decide

theorem test_release_of_a_stalled_bus :
    ((after (State.reset.onGroup 0 fun g =>
      { g with owner := .host 0 true, down := { g.down with stalled := true } }) (.moduleReleasesDscl 0)).group 0).owner =
      .idle := by decide

theorem test_host_wait_expiry :
    let t := after ((onPort (inState .serving) { transfer false .forwarded with hold := .bus }).onGroup 0 fun g =>
      { g with waiting := some { cage := 0, timer := late 20 } }) (.hostWaitExpiry 0)
    (t.group 0).waiting = none ∧ (t.group 0).up.answer = .nack := by decide

theorem test_abandoned_counts :
    (after (onPort .reset (transfer false .uncovered)) (.abandoned 0)).counters[2] = 1 := by decide

/-- R31: an aborted burst with a byte on the bus ends at the byte's answer, not before. -/
theorem test_aborted_burst_finishes_its_byte :
    let s := after ((sending (inState .serving) (inBurst .data [.read, .read] [])).onCage 0 fun c =>
      { c with qual := { c.qual with phase := .presentDrop, timer := some (late 20) } }) (.qualifiedRemoval 0)
    (s.group 0).owner = .burst 0 ∧ ((after s (.moduleAnswer 0 true 1#8)).group 0).owner = .idle := by decide

/-- R10: the rest of a stalled write is posted once the cage is concealed. -/
theorem test_stalled_write_is_posted_after_the_cut :
    let s := (onPort (seqState .serving fun q => { q with baseline := some (Vector.replicate 4 none) })
      { transfer false .forwarded with relay := .stalled }).onGroup 0 fun g =>
        { g with owner := .host 0 false, down := { g.down with stalled := true } }
    let t := after (after s (.moduleReset 0)) (.writeDataByte 0 1#8)
    (t.group 0).up.answer = .ack ∧ (t.cage 0).events.counters[7] = 1 := by decide

/-- R69: a read cut by a removal brings the cache nothing, even when the cage serves again at its STOP. -/
theorem test_read_of_a_removed_module_is_dropped :
    let byte : CacheByte := { key := .lower 1, pos := 0, value := 9#8, readClass := .live }
    let s := onPort (inState .serving) { transfer true .forwarded with readBytes := [byte] }
    (after s (.stop 0)).cache.length = 1 ∧
      (after (onPort (inState .serving) { transfer true .forwarded with readBytes := [byte], moduleGone := true })
        (.stop 0)).cache = [] := by decide

theorem test_burst_end_frees_the_bus : ((after (probed 7#8) (.burstEnd 0)).group 0).owner = .idle := by decide

/-- R140: an unexpected byte starts a SILENT recovery. -/
theorem test_probe_mismatch :
    ((after (probed 6#8) (.burstEnd 0)).cage 0).seq.recovery = some .silent ∧
      ((after (probed 7#8) (.burstEnd 0)).cage 0).seq.state = .serving := by decide

/-! ## Presence -/

/-- R80: the settle base of 25 is 250 ms. -/
theorem test_rise : ((after .reset (.rise 3)).cage 3).qual.timer = some { duration := 250, elapsed := 0 } := by decide

theorem test_drop_during_settle :
    ((after (inPhase .settling 250 .settling) (.dropDuringSettle 0)).cage 0).qual.timer =
      some { duration := 20, elapsed := 0 } := by decide

/-- R82: the fifth bounce, one past the limit, doubles the settle and raises UNSTABLE. -/
theorem test_bounce_past_the_limit :
    let t := after ((inPhase .settleDrop 20 .settling).onCage 0 fun c => { c with qual := { c.qual with bounces := 4 } })
      (.bounce 0)
    (t.cage 0).qual.timer = some { duration := 500, elapsed := 0 } ∧ (t.cage 0).qual.unstable = true := by decide

theorem test_settle_qualification :
    let t := after (inPhase .settling 250 .settling) (.settleQualification 0)
    (t.cage 0).seq.state = .booting ∧ t.committed = 6 ∧ (t.cage 0).seq.recovery = some .first := by decide

theorem test_unaccepted_removal :
    ((after (inPhase .settleDrop 20 .settling) (.unacceptedRemoval 0)).cage 0).seq.state = .vacant := by decide

theorem test_drop : ((after (inState .serving) (.drop 0)).cage 0).qual.phase = .presentDrop := by decide

theorem test_glitch_in_held :
    let t := after (inPhase .presentDrop 20 .held) (.glitch 0)
    (t.cage 0).seq.state = .held ∧ (t.cage 0).events.counters[3] = 1 := by decide

theorem test_qualified_removal_frees_the_charge :
    (after busy (.drop 0)).committed = 24 ∧
      (after (after busy (.drop 0)) (.qualifiedRemoval 0)).committed = 6 := by decide

theorem test_mirq_reaches_hirq_in_service :
    ((after (inState .serving) (.mirqChange 0 true)).cage 0).lines.hirq = true ∧
      ((after (inState .booting) (.mirqChange 0 true)).cage 0).lines.hirq = false := by decide

theorem test_reset_pulse_end :
    ((after ((inState .booting).onCage 0 fun c => { c with lines := { c.lines with pulse := some (late 10) } })
      (.resetPulseEnd 0)).cage 0).lines.mrst = false := by decide

/-! ## Timers -/

theorem test_boot_timeout :
    ((after (seqState .booting fun q => { q with waitTimer := some (.bootTimeout, late 90000) }) (.bootTimeout 0)).cage 0).seq.holdReason =
      .bootTimeout := by decide

theorem test_boot_delay :
    ((after (ready (seqState .booting fun q => { q with waitTimer := some (.bootDelay, late 2000) }))
      (.bootDelay 0)).cage 0).seq.state ≠ .booting := by decide

theorem test_ramp_timeout :
    ((after (seqState .ramping fun q => { q with waitTimer := some (.rampTimeout, late 30000) }) (.rampTimeout 0)).cage 0).seq.holdReason =
      .rampTimeout := by decide

theorem test_ramp_delay_first :
    ((after (seqState .ramping fun q => { q with waitTimer := some (.rampDelay, late 2000), recovery := some .first })
      (.rampDelay 0)).cage 0).seq.serveCheck = true := by decide

theorem test_poll_timer_expiry :
    ((after (ready ((inState .booting).onOps 0 fun o =>
      { o with polling := some { mask := 1#8, value := 1#8, timer := some (late 250) } })) (.pollTimerExpiry 0)).cage 0).slot =
      .running := by decide

theorem test_settle_wait_end_without_records :
    ((after ((inState .replaying).onOps 0 fun o =>
      { o with cursor := { o.cursor with position := some 0, phase := .settle, timer := some (late 5) } })
      (.settleWaitEnd 0)).cage 0).seq.serveCheck = true := by decide

theorem test_serving_check :
    ((after (seqState .replaying fun q => { q with serveCheck := true, recovery := some .first, clock := some 1234 })
      (.servingCheck 0)).cage 0).events.lastRecovery = 12 := by decide

theorem test_conceal_timer_expiry :
    ((after (seqState .booting fun q => { q with concealed := true, concealTimer := some (late 120000) })
      (.concealTimerExpiry 0)).cage 0).lines.hpd = false := by decide

theorem test_reveal_minimum_expiry :
    ((after (seqState .serving fun q => { q with revealTimer := some (late 500) }) (.revealMinimumExpiry 0)).cage 0).lines.hpd =
      true := by decide

theorem test_sample_timer_expiry :
    ((after (ready ((inState .serving).onLight 0 fun l => { l with activity := .monitor, sampleTimer := some (late 1000) }))
      (.sampleTimerExpiry 0)).group 0).owner = .burst 0 := by decide

theorem test_light_timeout :
    ((after ((inState .verifying).onLight 0 fun l => { l with activity := .verify, lightTimeout := some (late 20000) })
      (.lightTimeout 0)).cage 0).seq.dim = true := by decide

theorem test_probe_timer_expiry :
    ((after (ready (withRecord (seqState .serving fun q => { q with probeTimer := some (late 5000) }) .applied))
      (.probeTimerExpiry 0)).cage 0).ops.probe = some { glitch := false, loc := spot, failures := 0 } := by decide

theorem test_retry_interval_expiry :
    ((after ((inState .serving).onOps 0 fun o =>
      { o with probe := some { glitch := false, loc := spot, failures := 1 }, retry := some (late 100) })
      (.retryIntervalExpiry 0 .sequencer)).group 0).owner = .burst 0 := by decide

/-! ## The host's commands -/

theorem test_resume :
    ((after (inState .held) (.resume 0)).cage 0).seq.recovery = some .resume ∧
      ((after (inState .serving) (.resume 0)).cage 0).control.result = 2#8 := by decide

theorem test_adopt :
    ((after (withRecord (inState .serving) .failed) (.adopt 0)).cage 0).journal.list = [] := by decide

theorem test_force_replay_keeps_the_bytes :
    ((after ((withRecord (inState .held) .applied).onCage 0 fun c => { c with ledger := { c.ledger with grant := true } })
      (.forceReplay 0)).cage 0).journal.list = [record .pending] := by decide

theorem test_release : ((after (inState .held) (.release 0)).cage 0).seq.state = .serving := by decide

theorem test_module_reset :
    ((after (inState .serving) (.moduleReset 0)).cage 0).lines.pulse = some { duration := 10, elapsed := 0 } := by decide

theorem test_cage_clear :
    ((after (withRecord .reset .applied) (.cageClear 0)).cage 0).journal.list = [] := by decide

theorem test_bind_profile :
    ((after .reset (.bindProfile 0 3#8)).cage 0).binding = 3 ∧
      ((after .reset (.bindProfile 0 4#8)).cage 0).control.result = 4#8 := by decide

theorem test_own : ((after .reset (.own 0 1#8 1#8)).cage 0).lines.mlowOwner = .host := by decide

theorem test_line_of_the_engine_refused : ((after .reset (.line 0 0#8 0#8)).cage 0).control.result = 3#8 := by decide

theorem test_snapshot_zeroes_the_counters :
    ((after busy (.snapshotCage 0)).cage 0).events.counters[20] = 0 ∧
      ((after busy (.snapshotCage 0)).cage 0).events.snapshot.counters[20] = 65535 := by decide

theorem test_device_snapshot : (after .reset (.snapshotDevice 5)).snapshot.taken = true := by decide

theorem test_set_mode : (after .reset (.setMode 0 1#8)).mode = .learn := by decide

theorem test_unknown_command : ((after .reset (.unknownCommand 0 12#8)).cage 0).control.result = 4#8 := by decide

/-! ## Control-page writes and reset -/

theorem test_flag_clear_drops_alert : (after busy (.flagClear 0 .cageLow 1#8)).alert = false := by decide

theorem test_enable_write : ((after .reset (.enableWrite 0 .cageHigh 0#8)).cage 0).events.enables = 255#9 := by decide

/-- R184: the two bytes of the budget; R185: clamped to 4095. -/
theorem test_budget_write :
    (after .reset (.budgetWrite 44#8)).settings.budget = 300 ∧
      (after (after .reset (.settingWrite 0 .ctrl 136#8 255#8)) (.budgetWrite 44#8)).settings.budget = 4095 := by decide

theorem test_quota_write : ((after .reset (.quotaWrite 0 7#8)).cage 0).journal.quota = 8 := by decide

theorem test_select_offset_write : ((after .reset (.selectOffsetWrite 1 false 255#8)).profile 1).pageSelect = 127#8 := by
  decide

/-- R163: a dark threshold at the lit one is stored one below it. -/
theorem test_threshold_write :
    ((after { State.reset with profiles := State.reset.profiles.set 2 { Profile.reset with
      lane := { Profile.reset.lane with darkHeld := 1#8 } } } (.thresholdWrite 2 false 44#8)).profile 2).lane.dark = 299 := by
  decide

theorem test_window_selector_write : ((after .reset (.windowSelectorWrite 0 false 9#8)).cage 0).control.windowKind = 6 := by
  decide

theorem test_profile_field_write :
    ((after (after .reset (.windowSelectorWrite 0 false 2#8)) (.profileFieldWrite 0 128#8 5#8)).windowByte 0 128) = 1#8 := by
  decide

theorem test_setting_write : (after .reset (.settingWrite 0 .ctrl 148#8 200#8)).settings.hostWait = 100 := by decide

theorem test_reset_n : (after busy .resetNAssertion).inReset = true ∧ (after busy .resetNAssertion).committed = 0 := by decide

theorem test_start_up : (after busy (.startUp false true 0#2)).mode = .learn ∧ (after busy (.startUp false true 0#2)).pending = [.rise 4] := by
  decide

/-! ## A state and operands for the hypotheses of each statement -/

/-- Nothing is due right after reset. -/
theorem nothing_due_at_reset (c : Instr) : ¬State.reset.IsDue c := by
  have h : ∀ k : CageId, (State.reset.cage k) = Cage.reset := by decide
  have u : ∀ g : GroupId, (State.reset.group g) = Group.reset := by decide
  cases c
  case retryIntervalExpiry k a => cases a <;> simp [State.IsDue, Expired, h, Cage.reset, Operations.reset, LightMonitor.reset]
  all_goals
    simp [State.IsDue, Expired, h, u, Cage.reset, Qualifier.reset, CageLines.reset, Sequencer.reset,
      Operations.reset, Cursor.reset, LightMonitor.reset, Group.reset]

/-- Nothing due; and, at the moment each becomes due, a boot delay, a pulse, an ended burst, a waiting host, a byte on the bus and a
serving check. -/
theorem witness_EmptyQueueRunsTheTimebase :
    (State.reset.pending = [] ∧ State.reset.inReset = false ∧ ∀ c, ¬State.reset.IsDue c) ∧
      (seqState .booting fun q => { q with waitTimer := some (.bootDelay, late 9) }).IsDue (.bootDelay 0) ∧
      (cage0 fun c => { c with lines := { c.lines with pulse := some (late 10) } }).IsDue (.resetPulseEnd 0) ∧
      (withBurst .reset (endedBurst .monitor 0#8 true)).IsDue (.burstEnd 0) ∧
      (State.reset.onGroup 0 fun g => { g with waiting := some { cage := 0, timer := late 20 } }).IsDue
        (.hostWaitExpiry 0) ∧
      (State.reset.onGroup 0 fun g => { g with down := { g.down with wait := some (late 50) } }).IsDue (.moduleStall 0) ∧
      (seqState .replaying fun q => { q with serveCheck := true }).IsDue (.servingCheck 0) ∧
      (after .reset .resetNAssertion).pending = [] ∧ (after .reset .resetNAssertion).inReset = true :=
  ⟨⟨rfl, rfl, nothing_due_at_reset⟩, ⟨late 9, rfl, Nat.le_refl _⟩, ⟨late 10, rfl, Nat.le_refl _⟩,
    ⟨rfl, _, rfl, rfl, rfl⟩, ⟨_, rfl, Nat.le_refl _⟩, ⟨late 50, rfl, Nat.le_refl _⟩, ⟨rfl, rfl⟩, rfl, rfl⟩

theorem witness_ResetRowsStartThePart :
    (after .reset .resetNAssertion).inReset = true ∧ isReset (.rise 0) = false ∧
      (∃ t, exec .resetNAssertion busy = .next t) ∧ ∀ a b d, Instr.resetNAssertion ≠ .startUp a b d :=
  ⟨by decide, by decide, ⟨_, rfl⟩, by simp⟩

/-- The step from `busy`, for every relation that a step keeps. -/
theorem witness_step_from_busy : ∃ t, step busy = .next t := ⟨_, rfl⟩

/-- The relation cage by cage, where it can be decided. -/
theorem linesDriven_of (s : State)
    (h : ∀ k : CageId, ((s.cage k).lines.mrstOwner = .engine →
        ((s.cage k).lines.mrst = true ↔ (s.cage k).seq.state = .vacant ∨ (s.cage k).seq.state = .settling ∨
          (s.cage k).lines.pulse.isSome)) ∧
      ((s.cage k).lines.mlowOwner = .engine → ((s.cage k).lines.mlow = true ↔ (s.cage k).ledger.grant = false)) ∧
      ((s.cage k).lines.hpd = true ↔
        (((s.cage k).seq.state = .serving ∨ (s.cage k).seq.state = .held) ∧ (s.cage k).seq.revealTimer = none) ∨
          (s.cage k).seq.concealed = true) ∧
      ((s.cage k).lines.hirq = true ↔
        ((s.cage k).seq.state = .serving ∨ (s.cage k).seq.state = .held) ∧ (s.cage k).qual.interrupt = true)) :
    s.LinesDriven := h

theorem witness_StepKeepsOutputsLedgerAndCounters :
    busy.LinesDriven ∧ busy.AlertFollows ∧ busy.LedgerBalanced ∧ busy.CountersBounded := by
  refine ⟨linesDriven_of _ (by decide), ?_, ?_, ?_⟩
  · unfold State.AlertFollows; decide
  · unfold State.LedgerBalanced State.chargeSum; decide
  · unfold State.CountersBounded; decide

theorem witness_StepKeepsPoolsQueueAndSettings :
    busy.PoolBounded ∧ busy.CacheSound ∧ busy.QueueOrdered ∧ busy.ThresholdsApart ∧ busy.SettingsInRange := by
  refine ⟨?_, ?_, ?_, ?_, ?_⟩
  · unfold State.PoolBounded; decide
  · unfold State.CacheSound; decide
  · unfold State.QueueOrdered; decide
  · unfold State.ThresholdsApart; decide
  · unfold State.SettingsInRange; decide

theorem witness_AddressedCommandLeavesOtherCages :
    addressedCage (.qualifiedRemoval 0) = some 0 ∧ (15 : CageId) ≠ 0 ∧ ∃ t, exec (.qualifiedRemoval 0) busy = .next t :=
  ⟨rfl, by decide, _, rfl⟩

theorem witness_PointerStaysInItsArea :
    (255#8 : Byte).toNat = 255 ∧ (128#8 : Byte).toNat = 128 ∧ (128#8 : Byte).toNat + 127 ≤ 255 ∧
      (128#8 : Byte) ∈ offsetsFrom 255#8 2 := by decide

/-- An entry at its first and last offset, one past it, and the two select offsets. -/
theorem witness_FirstCoveringEntryClassifies :
    let p := { Profile.reset with
      entries := Profile.reset.entries.set 1 { RegionEntry.reset with used := true, first := 16#8, last := 31#8 } }
    (p.entries[(1 : Fin 16)].covers 0#8 0#8 16#8 = true ∧ p.entries[(1 : Fin 16)].covers 0#8 0#8 31#8 = true) ∧
      (∀ j : Fin 16, j < 1 → p.entries[j].covers 0#8 0#8 16#8 = false) ∧
      ¬((16#8 : Byte) = p.pageSelect ∨ p.bankSelect = some 16#8) ∧
      (∀ i : Fin 16, p.entries[i].covers 0#8 0#8 32#8 = false) ∧
      { RegionEntry.reset with used := true, area := .upper, first := 128#8, last := 255#8 }.covers 3#8 4#8 255#8 = true ∧
      (127#8 : Byte) = p.pageSelect ∧
      p.bankSelect = some 126#8 := by decide

theorem witness_StartFixesTheCage :
    State.reset.inReset = false ∧ (State.reset.group 0).up.transaction = none ∧ 8#4 = 1#4 <<< (3 : SlotId).val ∧
      ((9#4 : BitVec 4) ≠ 0#4 ∧ ∀ n : SlotId, 9#4 ≠ 1#4 <<< n.val) ∧
      ((onPort .reset (transfer false .uncovered)).group 0).up.transaction ≠ none := by decide

theorem witness_TransferEndTakesThePendingSelects :
    let s := onPort (inState .serving) { transfer false .forwarded with resetSeen := true }
    s.inReset = false ∧
      (s.group 0).up.transaction =
        some { cage := some 0, transfer := some { transfer false .forwarded with resetSeen := true } } ∧
      { transfer false .forwarded with resetSeen := true }.hold = .none ∧ (s.cage 0).seq.state = .serving := by decide

/-- The bus in the host's hands, stalled and not, with and without a request that waits for it. -/
theorem witness_TransferEnd_other_forms :
    (∀ b ∈ [true, false],
      let s := ((onPort (inState .serving) (transfer false .forwarded)).onGroup 0 fun g =>
          { g with owner := .host 0 false, down := { g.down with selected := some 0, stalled := b } }).onCage 2 fun c =>
        { c with slot := .requested .monitor probeRequest }
      s.inReset = false ∧ (s.group 0).owner = .host 0 false ∧ (s.group 0).down.stalled = b ∧ (s.group 0).waiting = none ∧
        (s.cage (cageAt 0 2)).slot = .requested .monitor probeRequest ∧
        (∀ m : SlotId, m ≠ 2 → (s.cage (cageAt 0 m)).slot = .empty) ∧ (s.group 0).lastServed = 3 ∧
        s.current 0 = some (0, transfer false .forwarded) ∧
        ((s.onGroup 0 fun g => { g with waiting := some { cage := 1, timer := late 20 } }).group 0).waiting =
          some { cage := 1, timer := late 20 }) ∧
    (onPort (inState .held) (transfer true .forwarded)).current 0 = some (0, transfer true .forwarded) ∧
      ((onPort (inState .booting) (transfer false .concealed)).onCtx 0 fun x => { x with pendingPage := some 176#8 }).current 0 =
        some (0, transfer false .concealed) := by decide

theorem witness_AddressByteFixesThePath :
    let s := after (inState .serving) (.start 0 1#4)
    s.inReset = false ∧ (s.group 0).up.transaction = some { cage := some 0, transfer := none } ∧
      (s.group 0).owner = .idle ∧ (s.cage 0).ctx.belief = none ∧ s.straps.moduleAddress = 80#7 := by decide

theorem witness_AddressByte_other_forms :
    ((after .reset (.start 0 0#4)).group 0).up.transaction = some { cage := none, transfer := none } ∧
      (let s := after (seqState .booting fun q => { q with concealed := true }) (.start 0 1#4)
       (s.group 0).up.transaction = some { cage := some 0, transfer := none } ∧ (s.cage 0).seq.concealed = true) ∧
      ((withBurst (after (inState .serving) (.start 0 1#4)) (endedBurst .monitor 0#8 true)).group 0).owner = .burst 0 := by
  decide

theorem witness_OffsetByteSetsThePointer :
    (∀ p ∈ [Path.forwarded, .foreign, .concealed, .uncovered, .control, .refused, .foreignRefused],
      (onPort .reset { transfer false p with offsetSeen := false }).current 0 =
        some (0, { transfer false p with offsetSeen := false })) ∧
      { transfer false .forwarded with relay := .nacked }.relay ≠ .live := by decide

theorem witness_WrittenByteFollowsThePath :
    (∀ p ∈ [Path.forwarded, .concealed, .uncovered, .control],
      let s := onPort .reset (transfer false p)
      s.inReset = false ∧ s.current 0 = some (0, transfer false p) ∧ (transfer false p).hold = .none ∧
        (transfer false p).relay = .live ∧ ¬128 ≤ (s.cage 0).ctx.hostPtr.toNat) ∧
      Profile.reset.classify 0#8 0#8 0#8 =
        some { entry := none, writeClass := .retain, readClass := .live, readBack := false, settle := 0 } ∧
      State.reset.straps.ctrlPage = 176#8 := by decide

theorem witness_ReadByteComesFromItsSource :
    (∀ p ∈ [Path.forwarded, .concealed, .refused, .foreignRefused],
      let s := onPort .reset (transfer true p)
      s.inReset = false ∧ s.current 0 = some (0, transfer true p) ∧
        s.straps.controlByte (transfer true p).page (s.cage 0).ctx.hostPtr = none) ∧
      (let s := (onPort .reset { transfer true .control with page := 176#8 }).onCtx 0 fun x => { x with hostPtr := 128#8 }
       s.current 0 = some (0, { transfer true .control with page := 176#8 }) ∧
        s.straps.controlByte 176#8 (s.cage 0).ctx.hostPtr = some .ctrl) ∧
      (∀ p ∈ [Path.forwarded, .concealed, .control],
        let x := { transfer true p with page := 176#8 }
        let y := { x with relay := .afterSelect, capture := some (.ctrl, 137#8, 64#8) }
        let s := (onPort (inState .serving) x).onCtx 0 fun x => { x with hostPtr := 136#8 }
        let u := (onPort (inState .serving) y).onCtx 0 fun x => { x with hostPtr := 137#8 }
        s.current 0 = some (0, x) ∧ x.relay = .live ∧ s.straps.controlByte x.page (s.cage 0).ctx.hostPtr = some .ctrl ∧
          u.current 0 = some (0, y) ∧ y.capture = some (.ctrl, (u.cage 0).ctx.hostPtr, 64#8) ∧
          u.straps.controlByte y.page (u.cage 0).ctx.hostPtr = some .ctrl) ∧
      (withRecord .reset .pending).cages[0].journal.retained (keyAt 0#8 0#8 8#8) (posOf 8#8) = some 7#8 := by decide

theorem witness_RiseBeginsAnInsertion :
    State.reset.inReset = false ∧ (State.reset.cage 0).qual.phase = .absent := by decide

/-- Among the bounces, the last count a bounce still adds to, and the count that stays. -/
theorem witness_DropsBouncesAndInterruptMoveTheQualifier :
    ((inPhase .settling 250 .settling).cage 0).qual.phase = .settling ∧ ((inState .serving).cage 0).qual.phase = .present ∧
      ∀ n ∈ [254, 255],
        let s := (inPhase .settleDrop 20 .settling).onCage 0 fun c => { c with qual := { c.qual with bounces := n } }
        s.inReset = false ∧ (s.cage 0).qual.phase = .settleDrop ∧ (s.cage 0).qual.bounces = n ∧ n ≤ 255 := by decide

theorem witness_UnacceptedRemovalLeavesNoTrace :
    let s := inPhase .settleDrop 20 .settling
    s.inReset = false ∧ (s.cage 0).qual.phase = .settleDrop ∧
      (s.cage 0).qual.timer = some { duration := 20, elapsed := 0 } := by decide

theorem witness_QualifiedRemovalVacatesTheCage :
    (let s := inPhase .presentDrop 20 .serving
     s.inReset = false ∧ (s.cage 0).qual.phase = .presentDrop ∧
      (s.cage 0).qual.timer = some { duration := 20, elapsed := 0 } ∧ (s.cage 0).standing = .unmatched ∧
      (onPort s (transfer true .forwarded)).current (groupOf 0) = some (0, transfer true .forwarded)) ∧
      (let b := inBurst .data [.read] []
       let s := sending ((inPhase .presentDrop 20 .serving).onCage 0 fun c => { c with standing := .matched }) b
       (s.cage 0).qual.phase = .presentDrop ∧ (s.cage 0).standing = .matched ∧
        (s.group (groupOf 0)).owner = .burst 0 ∧ (s.group (groupOf 0)).burst = some b ∧ b.cage = 0 ∧
        (s.group (groupOf 0)).down.wait.isSome = true) ∧
      (let s := withBurst (inPhase .presentDrop 20 .serving) (endedBurst .sequencer 0#8 false)
       (s.group (groupOf 0)).owner = .burst 0 ∧
        (s.group (groupOf 0)).burst = some (endedBurst .sequencer 0#8 false) ∧
        (endedBurst .sequencer 0#8 false).phase = .ended ∧ (s.group (groupOf 0)).down.wait = none) := by decide

theorem witness_SettleQualificationBootsTheModule :
    (let s := inPhase .settling 250 .settling
     s.inReset = false ∧ (s.cage 0).qual.phase = .settling ∧ (s.cage 0).seq.recovery = none ∧
      (s.cage 0).qual.absenceAtRise = none) ∧
      (let s := (inPhase .settling 250 .settling).onCage 0 fun c =>
        { c with seq := { c.seq with recovery := some .reseat }, qual := { c.qual with absenceAtRise := some 65535 } }
       (s.cage 0).qual.phase = .settling ∧ (s.cage 0).seq.recovery ≠ none ∧
        (s.cage 0).qual.absenceAtRise = some 65535) := by decide

theorem witness_GlitchIsJudgedByTheState :
    (∀ q ∈ [SeqState.held, .booting, .identifying, .ramping, .replaying, .verifying, .admitting, .serving],
      ((inPhase .presentDrop 20 q).cage 0).qual.phase = .presentDrop ∧ ((inPhase .presentDrop 20 q).cage 0).seq.state = q) ∧
      ((inPhase .presentDrop 20 .serving).profileOf 0).usableProbe = none ∧
      (let s := ready (withRecord (inPhase .presentDrop 20 .serving) .applied)
       (s.profileOf 0).usableProbe = some spot ∧ (s.cage 0).journal.expected spot = some 7#8 ∧
        (s.cage 0).seq.state = .serving ∧ (s.cage 0).ops.glitchWait = none ∧ (s.cage 0).ops.probe = none ∧
        (s.cage 0).ops.capture = none ∧ (s.cage 0).qual.phase = .presentDrop) := by decide

theorem witness_TimeoutsHoldTheCage :
    (let s := seqState .booting fun q =>
      { q with waitTimer := some (.bootTimeout, late 90000), recovery := some .silent, clock := some 6553599, concealed := true }
     s.inReset = false ∧ (s.cage 0).seq.waitTimer = some (.bootTimeout, late 90000) ∧
      (s.cage 0).seq.recovery = some .silent ∧ (s.cage 0).seq.clock = some 6553599 ∧ (s.cage 0).seq.concealed = true) ∧
      (let s := seqState .ramping fun q => { q with waitTimer := some (.rampTimeout, late 30000) }
       (s.cage 0).seq.waitTimer = some (.rampTimeout, late 30000) ∧ (s.cage 0).seq.recovery = none) := by decide

theorem witness_BootDelayBeginsIdentification :
    let s := profile0 (seqState .booting fun q => { q with waitTimer := some (.bootDelay, late 2000) }) fun p =>
      { p with idSpans := p.idSpans.set 3 { Span.reset with used := true, loc := spot, length := 16 } }
    s.inReset = false ∧ (s.cage 0).seq.waitTimer = some (.bootDelay, late 2000) ∧
      ((s.profileOf 0).idReads).length = 1 := by decide

theorem witness_RampDelayStartsReplay :
    (let s := withRecord (seqState .ramping fun q =>
      { q with waitTimer := some (.rampDelay, late 2000), recovery := some .silent }) .applied
     s.inReset = false ∧ (s.cage 0).seq.waitTimer = some (.rampDelay, late 2000) ∧ (s.cage 0).seq.recovery ≠ some .first ∧
      (s.cage 0).journal.incomplete = false ∧ (s.cage 0).journal.list = [record .applied] ∧
      runsOf (s.profileOf 0) (record .applied) = [{ first := 0, length := 1 }]) ∧
      (let s := seqState .ramping fun q => { q with waitTimer := some (.rampDelay, late 2000), recovery := some .first }
       (s.cage 0).seq.recovery = some .first ∧ (s.cage 0).seq.waitTimer = some (.rampDelay, late 2000)) ∧
      (let s := (seqState .ramping fun q =>
        { q with waitTimer := some (.rampDelay, late 2000), recovery := some .resume }).onJournal 0 fun j =>
          { j with incomplete := true }
       (s.cage 0).journal.incomplete = true ∧ (s.cage 0).seq.recovery = some .resume) := by decide

theorem witness_ModuleAnswerCompletesTheByte :
    ∀ h ∈ [Hold.address, .offset 0#8, .offset 255#8, .data 127#8 3#8, .data 126#8 3#8, .data 0#8 3#8, .read 0#8 true,
        .read 255#8 false],
      let s := onBus (transfer false .forwarded) h
      s.inReset = false ∧ (s.group 0).owner = .host 0 false ∧
        (s.group 0).down.wait = some { duration := 50, elapsed := 3 } ∧ (s.group 0).down.stalled = false ∧
        s.current 0 = some (0, { transfer false .forwarded with hold := h }) ∧
        s.straps.controlByte (transfer false .forwarded).page (s.cage 0).ctx.hostPtr = none := by decide

/-- Nobody waits, where the slots can be read. -/
theorem nobodyWaits_of (s : State) (g : GroupId)
    (h : (s.group g).waiting = none ∧ ∀ n, (s.cage (cageAt g n)).slot.request? = none) : s.NobodyWaits g :=
  ⟨h.1, fun n a r e => by have := h.2 n; rw [e] at this; cases this⟩

/-- A report with its burst over, where the state can be read. -/
theorem reports_of (s : State) (k : CageId) (b : Burst)
    (h : (s.group (groupOf k)).burst = some b ∧ b.phase = .ended ∧ (s.group (groupOf k)).down.stalled = false ∧
      b.cage = k ∧ b.orphan = false ∧ b.spoiled = false ∧ b.outcome.isSome = true ∧ b.restoreFailed = none ∧
      (s.cage k).slot = .running) : s.Reports k b :=
  ⟨h.1, h.2.1, h.2.2.1, h.2.2.2.1, h.2.2.2.2.1, h.2.2.2.2.2.1, h.2.2.2.2.2.2.1, h.2.2.2.2.2.2.2.1, h.2.2.2.2.2.2.2.2⟩

/-- A byte of a burst on the bus, where the state can be read. -/
theorem sendsByte_of (s : State) (b : Burst) (x : DownByte) (rest : List DownByte)
    (h : (s.group (groupOf b.cage)).owner = .burst b.cage ∧ (s.group (groupOf b.cage)).burst = some b ∧
      (s.group (groupOf b.cage)).down.wait.isSome = true ∧ (s.group (groupOf b.cage)).down.stalled = false ∧
      b.job.current = x :: rest) : s.SendsByte b x rest :=
  ⟨h.1, h.2.1, h.2.2.1, h.2.2.2.1, h.2.2.2.2⟩

/-- The phases a byte of a burst can be in, aborted or not. -/
def phases : List Burst :=
  ([BurstPhase.select, .data, .restore false, .restore true].map fun p => inBurst p [.read] []) ++
    [{ inBurst .data [.read] [] with aborting := true }]

theorem witness_StallEndsTheByteAndTheReleaseTheStall :
    (let s := onBus (transfer true .forwarded) (.read 255#8 true)
     (s.group 0).owner = .host 0 false ∧ (s.group 0).down.stalled = false ∧ (s.group 0).down.wait.isSome = true) ∧
      (let s := (onPort (inState .serving) { transfer true .forwarded with relay := .stalled }).onGroup 0 fun g =>
        { g with owner := .host 0 false, down := { g.down with stalled := true } }
       s.inReset = false ∧ (s.group 0).down.stalled = true ∧ (s.group 0).owner = .host 0 false ∧ s.stretched 0 = false) ∧
      (let s := State.reset.onGroup 0 fun g => { g with owner := .host 0 true, down := { g.down with stalled := true } }
       (s.group 0).down.stalled = true ∧ (s.group 0).owner = .host 0 true ∧ (s.group 0).waiting = none ∧
        ∀ n, (s.cage (cageAt 0 n)).slot = .empty) ∧
      (∀ b ∈ phases, (sending .reset b).SendsByte b .read [] ∧ groupOf b.cage = 0 ∧ b.phase ≠ .ended) ∧
      ∀ b ∈ inBurst .ended [] [] :: phases,
        let s := (withBurst .reset b).onGroup 0 fun g => { g with down := { g.down with stalled := true } }
        (s.group 0).owner = .burst b.cage ∧ (s.group 0).burst = some b ∧ (s.group 0).down.stalled = true ∧
          s.NobodyWaits 0 ∧ (s.cage b.cage).slotQueue = [] := by
  refine ⟨by decide, by decide, by decide, ?_, ?_⟩
  · intro b h
    have d : (sending .reset b).SendsByte b .read [] := by
      revert b; simp only [phases, List.map, List.cons_append, List.nil_append, List.forall_mem_cons]
      exact ⟨sendsByte_of _ _ _ _ (by decide), sendsByte_of _ _ _ _ (by decide), sendsByte_of _ _ _ _ (by decide),
        sendsByte_of _ _ _ _ (by decide), sendsByte_of _ _ _ _ (by decide), by simp⟩
    exact ⟨d, by clear d; revert b; decide⟩
  · intro b h
    refine ⟨by revert b; decide, by revert b; decide, by revert b; decide, nobodyWaits_of _ _ (by revert b; decide),
      by revert b; decide⟩

/-- A byte acknowledged in each phase, in mid-transfer, at a transfer's end and at the last one's; and an aborted burst's byte. -/
theorem witness_BurstBytesFollowTheirPhases :
    (∀ b ∈ phases, (sending .reset b).inReset = false ∧ (sending .reset b).NobodyWaits (groupOf b.cage) ∧
        ((sending .reset b).cage b.cage).slotQueue = []) ∧
      (sending .reset (inBurst .select [.addressWrite, .offset 127#8, .data 3#8] [])).SendsByte
        (inBurst .select [.addressWrite, .offset 127#8, .data 3#8] []) .addressWrite [.offset 127#8, .data 3#8] ∧
      (sending .reset (inBurst .data [.offset 8#8] [[.addressRead, .read]])).SendsByte
        (inBurst .data [.offset 8#8] [[.addressRead, .read]]) (.offset 8#8) [] ∧
      (∀ b ∈ phases, (sending .reset b).SendsByte b .read []) ∧
      (inBurst .data [.read] []).aborting = false ∧
      { inBurst .data [.read] [] with aborting := true }.aborting = true := by
  refine ⟨fun b h => ⟨by revert b; decide, nobodyWaits_of _ _ (by revert b; decide), by revert b; decide⟩,
    sendsByte_of _ _ _ _ (by decide), sendsByte_of _ _ _ _ (by decide),
    fun b h => (witness_StallEndsTheByteAndTheReleaseTheStall.2.2.2.1 b h).1, rfl, rfl⟩

/-- A resynchronisation's byte in mid-transfer, at a transfer's end and at the last one's, with a cut waiting and without; and a cut
that waits for a plain byte. -/
theorem witness_ResynchronisationGoesByteByByte :
    (∀ j ∈ [Job.make [[.addressWrite, .offset 127#8, .data 0#8]] true { bank := 0#8, page := 0#8, ptr := 128#8 },
          Job.make [[.addressWrite], [.addressWrite, .offset 9#8]] true { bank := 0#8, page := 0#8, ptr := 9#8 },
          Job.make [[.addressWrite]] true { bank := 0#8, page := 0#8, ptr := 9#8 }],
        ∀ c ∈ [none, some Path.concealed, some .refused],
          let x := { transfer true .forwarded with cut := c }
          let s := onBus x (.resync j)
          s.inReset = false ∧ (s.group 0).owner = .host 0 false ∧ (s.group 0).down.wait.isSome = true ∧
            (s.group 0).down.stalled = false ∧ s.current 0 = some (0, { x with hold := .resync j }) ∧
            j.current.head? = some .addressWrite ∧ s.NobodyWaits 0) ∧
      ∀ h ∈ [Hold.offset 0#8, .data 255#8 1#8, .read 255#8 false],
        let x := { transfer (decide (h = .read 255#8 false)) .forwarded with cut := some .concealed }
        let s := onBus x h
        s.current 0 = some (0, { x with hold := h }) ∧ x.relay = .live ∧ x.path = .forwarded ∧ s.NobodyWaits 0 := by
  refine ⟨fun j hj c hc => ⟨?_, ?_, ?_, ?_, ?_, ?_, nobodyWaits_of _ _ ?_⟩,
    fun h hh => ⟨?_, ?_, ?_, nobodyWaits_of _ _ ?_⟩⟩
  all_goals (first | (revert hc; revert c; revert hj; revert j; decide) | (revert hh; revert h; decide))

theorem witness_WaitExpiryAndAbandonmentEndTheTransfer :
    (∀ p ∈ [Path.forwarded, .foreign],
      let s := (onPort (inState .serving) { transfer false p with hold := .bus }).onGroup 0 fun g =>
        { g with waiting := some { cage := 0, timer := late 20 } }
      s.inReset = false ∧ (s.group 0).waiting = some { cage := 0, timer := late 20 } ∧
        s.current 0 = some (0, { transfer false p with hold := .bus })) ∧
      ∀ b ∈ [false, true],
        let s := (onPort (inState .serving) (transfer false .forwarded)).onGroup 0 fun g =>
          { g with owner := .host 0 false, down := { g.down with stalled := b } }
        s.inReset = false ∧ s.current 0 = some (0, transfer false .forwarded) ∧ (transfer false .forwarded).hold = .none ∧
          (s.group 0).owner = .host 0 false ∧ (s.group 0).down.stalled = b ∧ s.NobodyWaits 0 :=
  ⟨by decide, fun b _ => ⟨by cases b <;> decide, by cases b <;> decide, by decide, by cases b <;> decide,
    by cases b <;> decide, nobodyWaits_of _ _ (by cases b <;> decide)⟩⟩

/-- A discarded burst's end with nobody waiting, with requests in two slots and one behind the burst, and with a host that waits. -/
theorem witness_BurstEnd_choices :
    let s := withBurst (inState .serving) (endedBurst .monitor 0#8 true)
    let r := (s.onCage 0 fun c => { c with slotQueue := [(.sequencer, probeRequest)] }).onCage 3 fun c =>
      { c with slot := .requested .monitor probeRequest }
    let h := (onPort r { transfer true .forwarded with hold := .bus }).onGroup 0 fun g =>
      { g with waiting := some { cage := 0, timer := late 20 } }
    (∀ n : SlotId, (if cageAt 0 n = 0 then nextInSlot (s.cage 0).slotQueue else (s.cage (cageAt 0 n)).slot) = .empty) ∧
      (s.group 0).waiting = none ∧ (s.cage 0).ops.glitchWait = none ∧
      (nextInSlot (r.cage 0).slotQueue = .requested .sequencer probeRequest ∧
        (r.cage (cageAt 0 3)).slot = .requested .monitor probeRequest ∧ (r.group 0).lastServed = 3 ∧
        ((0 : SlotId) - 3 - 1).val ≤ ((3 : SlotId) - 3 - 1).val) ∧
      (h.group 0).waiting = some { cage := 0, timer := late 20 } ∧ (h.cage 0).ctx.belief = none := by decide

/-- Bursts that count in one counter, in both, and, a readiness poll, in neither; awaited, discarded and spoiled. -/
theorem witness_BurstEndCountsOnce :
    ∀ b ∈ [{ endedBurst .monitor 0#8 true with outcome := some .nacked, restoreFailed := some .stalled },
        { endedBurst .sequencer 0#8 false with outcome := some .stalled, spoiled := true },
        { reported .poll .sequencer .nacked [] with orphan := false }],
      let s := withBurst (inState .serving) b
      s.inReset = false ∧ (s.group 0).burst = some b ∧ b.phase = .ended ∧ (s.group 0).down.stalled = false ∧
        groupOf b.cage = 0 ∧ (b.orphan = true → b.agent = .monitor) := by decide

theorem witness_ProbeReportIsJudged :
    (∀ v ∈ [7#8, 6#8],
      (probed v).Reports 0 (endedBurst .sequencer v false) ∧ (probed v).inReset = false ∧
        ((probed v).cage 0).ops.probe = some { glitch := true, loc := spot, failures := 0 } ∧
        ((probed v).cage 0).ops.capture = none ∧ ((probed v).cage 0).journal.expected spot = some 7#8) ∧
      ∀ n ∈ [8, 9],
        let b := reported .probe .sequencer .nacked []
        let s := withBurst ((inState .serving).onOps 0 fun o =>
          { o with probe := some { glitch := false, loc := spot, failures := n } }) b
        s.Reports 0 b ∧ b.request.purpose = .probe ∧ s.settings.retryLimit = 10 ∧
          (s.cage 0).journal.expected spot = none := by
  refine ⟨fun v h => ⟨reports_of _ _ _ ?_, ?_, ?_, ?_, ?_⟩, fun n h => ⟨reports_of _ _ _ ?_, rfl, rfl, ?_⟩⟩
  all_goals (first | (revert v; decide) | (revert n; decide))

/-- A poll's report in BOOTING and in RAMPING, with the ready byte, another, and none. -/
theorem witness_PollReportJudgesReadiness :
    ∀ q ∈ [SeqState.booting, .ramping], ∀ b ∈ [reported .poll .sequencer .complete [1#8],
        reported .poll .sequencer .complete [0#8], reported .poll .sequencer .nacked []],
      let s := withBurst (profile0 ((withRecord (seqState q fun x => { x with recovery := some .silent }) .applied).onOps 0 fun o =>
        { o with polling := some { mask := 1#8, value := 1#8, timer := none } }) fun p =>
          { p with idSpans := p.idSpans.set 3 { Span.reset with used := true, loc := spot, length := 16 } }) b
      s.inReset = false ∧ s.Reports 0 b ∧ b.request.purpose = .poll ∧ (s.cage 0).seq.state = q ∧
        (s.cage 0).ops.polling = some { mask := 1#8, value := 1#8, timer := none } ∧
        (s.profileOf 0).idReads ≠ [] ∧ (s.cage 0).journal.incomplete = false ∧
        runsOf (s.profileOf 0) (record .applied) = [{ first := 0, length := 1 }] := by
  refine fun q hq b hb => ⟨?_, reports_of _ _ _ ?_, ?_, ?_, ?_, ?_, ?_, ?_⟩
  all_goals (revert hb; revert b; revert hq; revert q; decide)

/-- An identification with its reads to do, the report of one, COMPLETE, NACKED below the limit and at it. -/
def identifying (todo : List IdRead) (failures : Nat) (b : Burst) : State :=
  withBurst ((seqState .identifying fun q => { q with recovery := some .first }).onOps 0 fun o =>
    { o with
      identification :=
        some
          { todo := todo, anySpan := true, got := Vector.replicate 4 none, held := [], attempt := [],
            failures := failures } }) b

theorem witness_IdentificationReadIsReported :
    ∀ e ∈ [IdRead.span 0 .model { loc := spot, length := 1 }, .prefetch { loc := spot, length := 1 }, .power { loc := spot, length := 1 }],
      ∀ n ∈ [0, 9], ∀ b ∈ [reported .identity .sequencer .complete [1#8], reported .prefetch .sequencer .stalled []],
        let s := identifying [e, .power { loc := spot, length := 1 }] n b
        s.inReset = false ∧ s.Reports 0 b ∧ (b.request.purpose = .identity ∨ b.request.purpose = .prefetch) ∧
          s.settings.retryLimit = 10 ∧ (s.cage 0).ops.identification.isSome = true := by
  refine fun e he n hn b hb => ⟨?_, reports_of _ _ _ ?_, ?_, ?_, ?_⟩
  all_goals (revert hb; revert b; revert hn; revert n; revert he; revert e; decide)

theorem witness_IdentificationOutcomeIsActedOn :
    let b := reported .identity .sequencer .complete [1#8]
    let e := IdRead.span 0 .model { loc := spot, length := 1 }
    ((identifying [e] 0 b).Reports 0 b ∧ (identifying [e] 0 b).queue = [] ∧ (identifying [e] 0 b).inReset = false ∧
        ((identifying [e] 0 b).cage 0).seq.baseline = none ∧ ((identifying [e] 0 b).cage 0).ledger.grant = false) ∧
      ∀ v ∈ [(1#8, IdOutcome.same), (2#8, .foreign)],
        let w : Baseline := (Vector.replicate 4 none).set 0 (some { role := .model, bytes := [v.1] })
        let s := (identifying [e] 0 b).onSeq 0 fun q => { q with baseline := some w }
        (s.cage 0).seq.baseline = some w ∧
          compareBaseline w ((Vector.replicate 4 none).set 0 (some { role := .model, bytes := [1#8] })) = v.2 :=
  ⟨⟨reports_of _ _ _ (by decide), by decide⟩, by decide⟩

/-- A replay burst's report: the write, with a read-back to come and without, and a read-back that agrees and that differs, below the
retry limit and at it. -/
def replaying (p : CursorPhase) (check : Bool) (rewrites failures : Nat) (b : Burst) : State :=
  withBurst ((withRecord (seqState .replaying fun q => { q with recovery := some .silent }) .pending).onOps 0 fun o =>
    { o with
      cursor :=
        { o.cursor with
          position := some 0, phase := p, runs := [{ first := 0, length := 1 }], rewrites := rewrites
          failures := failures, settle := 3, carried := [7#8], check := check } }) b

theorem witness_ReplayReportMovesTheCursor :
    ∀ p ∈ [CursorPhase.write, .readBack], ∀ c ∈ [true, false], ∀ n ∈ [0, 3],
      ∀ b ∈ [reported .replayWrite .sequencer .complete [7#8], reported .readBack .sequencer .complete [6#8],
          reported .readBack .sequencer .nacked []],
        let s := replaying p c n (3 * n) b
        s.inReset = false ∧ s.Reports 0 b ∧
          (b.request.purpose = .replayWrite ∨ b.request.purpose = .readBack) ∧
          (s.cage 0).ops.cursor.position = some 0 ∧ (s.cage 0).journal.list[0]? = some (record .pending) ∧
          (s.cage 0).ops.cursor.runs = [{ first := 0, length := 1 }] ∧ (s.cage 0).ops.cursor.settle ≠ 0 ∧
          s.settings.readBackRetry = 3 ∧ s.settings.retryLimit = 10 := by
  refine fun p hp c hc n hn b hb => ⟨?_, reports_of _ _ _ ?_, ?_, ?_, ?_, ?_, ?_, ?_, ?_⟩
  all_goals (revert hb; revert b; revert hn; revert n; revert hc; revert c; revert hp; revert p; decide)

theorem witness_CaptureReportFillsTheBaseline :
    ∀ o ∈ [CaptureOrigin.clear, .adopt], ∀ n ∈ [0, 9],
      ∀ b ∈ [reported .identity .sequencer .complete [1#8], reported .identity .sequencer .nacked []],
        ∀ rest ∈ [[], [((1 : Fin 4), Role.unit, ({ loc := spot, length := 1 } : Target))]],
          let x : Capture :=
            { origin := o, todo := (0, .model, { loc := spot, length := 1 }) :: rest, got := Vector.replicate 4 none,
              held := [], failures := n }
          let s := withBurst ((inState .serving).onOps 0 fun o => { o with capture := some x }) b
          s.inReset = false ∧ s.Reports 0 b ∧ b.request.purpose = .identity ∧ (s.cage 0).ops.capture = some x ∧
            (s.cage 0).ops.identification = none ∧ (s.cage 0).ops.probe = none ∧ (s.cage 0).ops.glitchWait = none ∧
            s.coveredSpan 0 { loc := spot, length := 1 } = none ∧ s.settings.retryLimit = 10 := by
  refine fun o ho n hn b hb rest hr => ⟨?_, reports_of _ _ _ ?_, ?_, ?_, ?_, ?_, ?_, ?_, ?_⟩
  all_goals
    (revert hr; revert rest; revert hb; revert b; revert hn; revert n; revert ho; revert o; decide)

theorem witness_SampleReportIsJudged :
    ∀ a ∈ [Activity.verify, .monitor], ∀ n ∈ [0, 9], ∀ f ∈ [6, 7],
      ∀ b ∈ [reported .sample .monitor .complete [1#8, 44#8], reported .sample .monitor .stalled []],
        let x : Sample := { request := b.request, lanes := 1, failures := n, retry := none }
        let s := withBurst ((inState .serving).onLight 0 fun l =>
          { l with activity := a, failedRun := f, sample := some x }) b
        s.inReset = false ∧ s.Reports 0 b ∧ b.request.purpose = .sample ∧ (s.cage 0).light.sample = some x ∧
          (s.cage 0).light.activity = a ∧ (s.cage 0).light.failedRun = f ∧ s.settings.retryLimit = 10 := by
  refine fun a ha n hn f hf b hb => ⟨?_, reports_of _ _ _ ?_, ?_, ?_, ?_, ?_, ?_⟩
  all_goals (revert hb; revert b; revert hf; revert f; revert hn; revert n; revert ha; revert a; decide)

theorem witness_ExpiriesRaiseTheirBurst :
    (let s := (inState .serving).onOps 0 fun o =>
      { o with probe := some { glitch := false, loc := spot, failures := 1 }, retry := some (late 100) }
     s.inReset = false ∧ (s.cage 0).ops.retry = some (late 100) ∧
      (s.cage 0).ops.probe = some { glitch := false, loc := spot, failures := 1 }) ∧
      (let s := (inState .serving).onLight 0 fun l =>
        { l with sample := some { request := probeRequest, lanes := 1, failures := 1, retry := some (late 100) } }
       (s.cage 0).light.sample = some { request := probeRequest, lanes := 1, failures := 1, retry := some (late 100) }) ∧
      (let s := ready ((inState .booting).onOps 0 fun o =>
        { o with polling := some { mask := 1#8, value := 1#8, timer := some (late 250) } })
       (s.cage 0).ops.polling = some { mask := 1#8, value := 1#8, timer := some (late 250) } ∧
        (s.profileOf 0).ready.present = true) ∧
      (let s := ready ((inState .serving).onLight 0 fun l =>
        { l with activity := .monitor, sampleTimer := some (late 1000) })
       (s.cage 0).light.sampleTimer = some (late 1000) ∧ (s.profileOf 0).lanes = 8 ∧ (State.reset.profileOf 0).lanes = 0) ∧
      (let s := ready (withRecord (seqState .serving fun q => { q with probeTimer := some (late 5000) }) .applied)
       (s.cage 0).seq.probeTimer = some (late 5000) ∧ (s.cage 0).ops.probe = none ∧ (s.cage 0).ops.glitchWait = none ∧
        (s.cage 0).ops.capture = none ∧ (s.profileOf 0).usableProbe = some spot ∧
        (s.cage 0).journal.expected spot = some 7#8) ∧
      (let s := seqState .serving fun q => { q with probeTimer := some (late 5000) }
       (s.cage 0).seq.probeTimer = some (late 5000) ∧ (s.profileOf 0).usableProbe = none ∧ (s.cage 0).ops.probe = none ∧
        (s.cage 0).ops.glitchWait = none ∧ (s.cage 0).ops.capture = none) := by decide

/-- The retry interval of a capture, of an identification, and of a replay's write and read-back. -/
theorem witness_ExpiriesRaise_other_operations :
    let span : Target := { loc := spot, length := 1 }
    (let x : Capture :=
      { origin := .adopt, todo := [(3, .unit, span)], got := emptyBaseline, held := [], failures := 9 }
     let s := (inState .serving).onOps 0 fun o => { o with retry := some (late 100), capture := some x }
     s.inReset = false ∧ (s.cage 0).ops.retry = some (late 100) ∧ (s.cage 0).ops.probe = none ∧
      (s.cage 0).ops.capture = some x) ∧
      (∀ r ∈ [IdRead.span 3 .unit span, .power span, .prefetch span],
        let x : Identification :=
          { todo := [r], got := emptyBaseline, anySpan := true, held := [], attempt := [], failures := 9 }
        let s := (inState .identifying).onOps 0 fun o => { o with retry := some (late 100), identification := some x }
        (s.cage 0).ops.retry = some (late 100) ∧ (s.cage 0).ops.probe = none ∧ (s.cage 0).ops.capture = none ∧
          (s.cage 0).ops.identification = some x) ∧
      ∀ f ∈ [CursorPhase.write, .readBack],
        let s := (withRecord (inState .replaying) .pending).onOps 0 fun o =>
          { o with
            retry := some (late 100)
            cursor := { o.cursor with position := some 0, runs := [{ first := 0, length := 1 }], phase := f } }
        (s.cage 0).ops.retry = some (late 100) ∧ (s.cage 0).ops.probe = none ∧ (s.cage 0).ops.capture = none ∧
          (s.cage 0).ops.identification = none ∧ (s.cage 0).journal.list[0]? = some (record .pending) ∧
          (s.cage 0).ops.cursor.phase = f := by decide

theorem witness_SettleWaitEndGoesOn :
    let f (l : List Record) : State := ready ((inState .replaying).onCage 0 fun c =>
      { c with
        journal := { c.journal with list := l }
        ops := { c.ops with cursor := { c.ops.cursor with position := some 0, timer := some (late 5) } } })
    ((f [record .applied, record .pending]).inReset = false ∧
        ((f [record .applied, record .pending]).cage 0).ops.cursor.timer = some (late 5) ∧
        ((f [record .applied, record .pending]).cage 0).ops.cursor.position = some 0 ∧
        ((f [record .applied, record .pending]).cage 0).journal.list[1]? = some (record .pending) ∧
        runsOf ((f []).profileOf 0) (record .pending) = [{ first := 0, length := 1 }]) ∧
      (∀ r ∈ ((f [record .applied]).cage 0).journal.list, r.mark ≠ .pending) ∧
      ((f []).profileOf 0).requiresAny = true ∧ (State.reset.profileOf 0).requiresAny = false := by decide

theorem witness_ServingCheckEntersService :
    (let s := onPort (seqState .replaying fun q => { q with serveCheck := true }) (transfer false .concealed)
     s.inReset = false ∧ (s.cage 0).seq.serveCheck = true ∧ s.postedInFlight 0 = true) ∧
      (let s := withRecord (seqState .replaying fun q => { q with serveCheck := true, recovery := some .silent }) .pending
       s.postedInFlight 0 = false ∧ (s.cage 0).seq.recovery ≠ some .first ∧
        (s.cage 0).journal.list = [record .pending] ∧
        runsOf (s.profileOf 0) (record .pending) = [{ first := 0, length := 1 }]) ∧
      (let s := withRecord (seqState .replaying fun q =>
        { q with serveCheck := true, recovery := some .silent, clock := some 6553599 }) .applied
       s.postedInFlight 0 = false ∧ (∀ r ∈ (s.cage 0).journal.list, r.mark ≠ .pending) ∧
        (s.cage 0).seq.recovery = some .silent ∧ (s.cage 0).seq.clock = some 6553599) ∧
      (let s := withRecord (seqState .replaying fun q =>
        { q with serveCheck := true, recovery := some .forced, clock := some 99 }) .applied
       let u := profile0 s fun p =>
        { p with idSpans := p.idSpans.set 3 { Span.reset with used := true, loc := spot, length := 1 } }
       u.inReset = false ∧ (u.cage 0).seq.serveCheck = true ∧ u.postedInFlight 0 = false ∧
        (∀ r ∈ (u.cage 0).journal.list, r.mark ≠ .pending) ∧ (u.cage 0).seq.recovery = some .forced ∧
        (u.cage 0).seq.clock = some 99 ∧ (u.cage 0).ops.probe = none ∧ (u.cage 0).ops.glitchWait = none ∧
        (s.profileOf 0).captureSpans = [] ∧
        (u.profileOf 0).captureSpans = [(3, .model, { loc := spot, length := 1 })]) ∧
      ((ready (inState .replaying)).profileOf 0).lanes = 8 := by decide

theorem witness_PulseRevealAndLightTimersExpire :
    (∀ q ∈ [SeqState.booting, .vacant],
      let s := ready ((inState q).onCage 0 fun c => { c with lines := { c.lines with pulse := some (late 10) } })
      s.inReset = false ∧ (s.cage 0).lines.pulse = some (late 10) ∧ (s.cage 0).seq.state = q ∧
        (s.cage 0).lines.mrstOwner = .engine ∧ (s.profileOf 0).ready.present = true) ∧
      let s := (seqState .verifying fun q =>
        { q with concealed := true, concealTimer := some (late 9), revealTimer := some (late 9) }).onLight 0 fun l =>
          { l with lightTimeout := some (late 9) }
      s.inReset = false ∧ (s.cage 0).seq.concealTimer = some (late 9) ∧ (s.cage 0).seq.concealed = true ∧
        (s.cage 0).seq.revealTimer = some (late 9) ∧ (s.cage 0).light.lightTimeout = some (late 9) := by decide

theorem witness_ComparisonJudgesEverySlot :
    let a : Baseline := Vector.replicate 4 none
    let b := a.set 0 (some { role := .unit, bytes := [1#8] })
    let c := a.set 0 (some { role := .unit, bytes := [2#8] })
    a[(0 : Fin 4)].isSome ≠ b[(0 : Fin 4)].isSome ∧ b ≠ c ∧ compareBaseline b c = .kin ∧ compareBaseline a b = .foreign := by
  decide

theorem witness_LaneIsJudgedByItsRuns :
    let p := Profile.reset.lane
    p.dark < p.lit ∧ 1 ≤ p.litCount ∧ 1 ≤ p.darkCount ∧ p.lit ≤ 300 ∧ 299 < p.lit ∧ p.dark ≤ 100 ∧ 99 < p.dark := by decide

theorem witness_ResumeAndModuleResetPulseTheModule :
    (inState .held).inReset = false ∧ ((inState .held).cage 0).lines.mrstOwner = .engine ∧
      ((inState .held).cage 0).seq.state = .held ∧ ((inState .serving).cage 0).seq.state = .serving ∧
      ((inState .serving).cage 0).lines.mrstOwner = .engine := by decide

theorem witness_ReleaseServesWithoutReplay :
    (inState .held).inReset = false ∧ ((inState .held).cage 0).seq.state = .held := by decide

/-- No span; a span that no line covers; and one that a VALID line covers, before another; and a glitch probe that waits for a
capture, with no span. -/
theorem witness_AdoptMakesTheModuleTheReference :
    (let s := inState .held
     s.inReset = false ∧ (s.cage 0).ops.glitchWait = none ∧ (s.cage 0).seq.state = .held ∧
      (s.profileOf 0).captureSpans = []) ∧
      ∀ q ∈ [SeqState.serving, .held],
        let s := profile0 (inState q) fun p =>
          { p with
            idSpans :=
              (p.idSpans.set 0 { Span.reset with used := true, loc := spot, length := 1 }).set 2
                { Span.reset with used := true, loc := { spot with offset := 16#8 }, length := 1 } }
        let t :=
          { s with
            cache := [{ owner := 0, key := .lower 1, kind := .live, state := .valid, cells := emptyOctet.put 0 5#8 }] }
        let x : Fin 4 × Role × Target := (0, .model, { loc := spot, length := 1 })
        let y : Fin 4 × Role × Target := (2, .model, { loc := { spot with offset := 16#8 }, length := 1 })
        (s.cage 0).seq.state = q ∧ (s.profileOf 0).captureSpans = [x, y] ∧ s.coveredSpan 0 x.2.2 = none ∧
          t.coveredSpan 0 x.2.2 = some [5#8] ∧ t.coveredSpan 0 y.2.2 = none ∧ (s.cage 0).ops.probe = none ∧
          (s.cage 0).ops.glitchWait = none ∧
          let u := (inState .serving).onOps 0 fun o => { o with glitchWait := some .capture }
          u.inReset = false ∧ (u.cage 0).seq.state = .serving ∧ (u.cage 0).ops.glitchWait = some .capture ∧
            (u.profileOf 0).captureSpans = [] := by decide

theorem witness_ForceReplayWritesTheJournal :
    (let s := (withRecord (inState .held) .failed).onCage 0 fun c => { c with ledger := { c.ledger with grant := true } }
     s.inReset = false ∧ (s.cage 0).seq.state = .held ∧ (s.cage 0).ledger.grant = true ∧
      (s.cage 0).journal.list = [record .failed] ∧
      runsOf (s.profileOf 0) (record .failed) = [{ first := 0, length := 1 }]) ∧
      (let s := seqState .held fun q => { q with declared := some 255#8 }
       (s.cage 0).ledger.grant = false ∧ (s.cage 0).lines.mlowOwner = .engine ∧ (s.cage 0).seq.declared = some 255#8 ∧
        (s.cage 0).settings.ceiling < (255 * (100 + s.settings.margin) + 99) / 100) ∧
      (let s := (inState .held).onCage 0 fun c => { c with lines := { c.lines with mlowOwner := .host } }
       (s.cage 0).lines.mlowOwner = .host ∧ (s.cage 0).ledger.grant = false ∧ s.queue = [] ∧
        s.committed + (s.cage 0).settings.ceiling ≤ s.settings.budget + (s.cage 0).ledger.charge) ∧
      let s := (inState .held).onCage 1 fun c => { c with ledger := { c.ledger with computed := some 400 } }
      let t := { s with committed := 301, queue := [{ cage := 1, priority := 0, passed := 7 }] }
      (∀ e ∈ t.queue, (t.cage 0).settings.priority ≤ e.priority ∧ e.cage ≠ 0 ∧
          t.settings.budget + (t.cage e.cage).ledger.charge < t.committed + (t.cage e.cage).ledger.computed.getD 0) ∧
        t.settings.budget + (t.cage 0).ledger.charge < t.committed + (t.cage 0).settings.ceiling := by decide

/-- VACANT; SERVING with no span; and SERVING with a span, a glitch probe whose byte is on the bus, and a sample that waits. -/
theorem witness_CageClearForgetsTheModule :
    ((State.reset.cage 0).seq.state = .vacant ∧ (State.reset.cage 0).ops.glitchWait = none ∧
        (State.reset.cage 0).ops.probe = none) ∧
      (let s := inState .serving
       s.inReset = false ∧ (s.cage 0).ops.glitchWait = none ∧ (s.cage 0).ops.probe = none ∧
        (s.profileOf 0).captureSpans = [] ∧ (s.cage 0).seq.state = .serving) ∧
      (∀ g ∈ [true, false],
        let x : Probe := { glitch := g, loc := spot, failures := 0 }
        let y : Sample := { request := probeRequest, lanes := 1, failures := 0, retry := none }
        let b := inBurst .data [.read] []
        let s := sending (profile0 ((inState .serving).onCage 0 fun c =>
            { c with
              ops := { c.ops with probe := some x }
              light := { c.light with activity := .monitor, sample := some y } }) fun p =>
          { p with idSpans := p.idSpans.set 0 { Span.reset with used := true, loc := spot, length := 1 } }) b
        (s.profileOf 0).captureSpans ≠ [] ∧ (s.cage 0).ops.probe = some x ∧ (s.cage 0).light.sample = some y ∧
          (s.group 0).owner = .burst 0 ∧ (s.group 0).burst = some b ∧ (s.group 0).down.wait.isSome = true) ∧
      (let s := withBurst (inState .serving) (endedBurst .sequencer 0#8 false)
       (s.group 0).owner = .burst 0 ∧ (s.group 0).burst = some (endedBurst .sequencer 0#8 false) ∧
        (endedBurst .sequencer 0#8 false).phase = .ended ∧ (s.group 0).down.wait = none ∧
        (s.group 0).down.stalled = false) ∧
      ((seqState .vacant fun q => { q with concealed := true }).cage 0).seq.concealed = true := by decide

theorem witness_ChangedSelectOffsetsUnsettleTheBelief :
    State.reset.inReset = false ∧ (3 : ProfileId).val = (3#8 : Byte).toNat ∧ (State.reset.cage 0).seq.state = .vacant ∧
      (let s := withBurst (inState .held) (endedBurst .sequencer 0#8 true)
       (s.cage 0).seq.state = .held ∧ (s.group (groupOf 0)).burst = some (endedBurst .sequencer 0#8 true) ∧
        (endedBurst .sequencer 0#8 true).cage = 0 ∧ (s.cage 0).binding ≠ 3) ∧
      (let j := Job.make [[.addressWrite]] true { bank := 0#8, page := 0#8, ptr := 9#8 }
       let s := onBus (transfer true .forwarded) (.resync j)
       s.current 0 = some (0, { transfer true .forwarded with hold := .resync j }) ∧ j.full = true ∧
        ((s.group 0).loseSelects fun k => decide (k = 0)) ≠ s.group 0) := by decide

theorem witness_OwnAndLineMoveTheModuleLines :
    lineOf 0#8 = some .mrst ∧ lineOf 1#8 = some .mlow ∧ ownerOf 0#8 = some .engine ∧ ownerOf 1#8 = some .host ∧
      levelOf 0#8 = some false ∧ levelOf 1#8 = some true ∧ (State.reset.cage 0).lineOwner .mrst ≠ .host ∧
      (State.reset.cage 0).lineLatch .mrst = (State.reset.cage 0).lineEngine .mrst ∧
      (let s := (inState .held).onCage 0 fun c => { c with lines := { c.lines with mlowOwner := .host } }
       (s.cage 0).seq.state = .held ∧ (s.cage 0).lineOwner .mlow = .host ∧
        (s.cage 0).lineLatch .mlow = (s.cage 0).lineEngine .mlow ∧ (s.cage 0).ledger.grant = false) ∧
      ∀ q ∈ [SeqState.serving, .held, .booting, .identifying, .admitting, .ramping, .replaying, .verifying],
        let s := (inState q).onCage 0 fun c => { c with lines := { c.lines with mrstOwner := .host, mrst := false } }
        (s.cage 0).lineOwner .mrst = .host ∧ (s.cage 0).lineLatch .mrst = false ∧ (s.cage 0).seq.state = q := by decide

/-- MRST the host's, asserted or released, in a cage whose lines stand at their levels. -/
theorem witness_OwnAndLine_driven (q : SeqState) (v : Bool) :
    ((inState q).onCage 0 fun c => { c with lines := { c.lines with mrstOwner := .host, mrst := v } }).LinesDriven :=
  linesDriven_of _ (by cases q <;> cases v <;> decide)

theorem witness_SnapshotsAndModeAreTakenWhole :
    let s := seqState .booting fun q => { q with concealed := true }
    s.inReset = false ∧ s.mode = .recover ∧ (s.cage 0).seq.concealed = true := by decide

theorem witness_RefusedCommandsOnlyAnswer :
    ((State.reset.cage 0).seq.state ≠ .held ∧ (State.reset.cage 0).seq.state ≠ .serving) ∧
      ((inState .serving).cage 0).seq.state ≠ .vacant ∧ (4#8 : Byte).toNat = 4 ∧ (2#8 : Byte).toNat = 2 ∧
      12 ≤ (12#8 : Byte).toNat ∧ (State.reset.cage 0).lineOwner .mrst = .engine ∧
      (let s := (inState .held).onCage 0 fun c => { c with lines := { c.lines with mrstOwner := .host, mrst := true } }
       (s.cage 0).lineOwner .mrst = .host ∧ (s.cage 0).lineLatch .mrst ≠ (s.cage 0).lineEngine .mrst) := by decide

theorem witness_WrittenBytesTakeEffect :
    State.reset.inReset = false ∧ State.reset.queue = [] ∧
      (let e : QueueEntry := { cage := 1, priority := 3, passed := 7 }
       let s := { busy with queue := [e] }
       s.queue = [e] ∧ (s.cage e.cage).ledger.computed = some 400 ∧
        s.committed - (s.cage e.cage).ledger.charge + 400 ≤ 256 * s.settings.budgetHeld.toNat + (255#8 : Byte).toNat) := by
  decide

theorem witness_SettingsReadBack_driven : busy.LinesDriven ∧ busy.inReset = false :=
  ⟨witness_StepKeepsOutputsLedgerAndCounters.1, by decide⟩

theorem witness_SettingsReadBackInTheirRange :
    State.reset.inReset = false ∧ wellFormed (.settingWrite 0 .ctrl 128#8 0#8) = true ∧
      (let s := cage0 fun c => { c with control := { c.control with windowKind := 2, windowIndex := 255#8 } }
       (s.cage 0).control.windowKind = 2 ∧ (s.cage 0).effectiveIndex = 63) ∧
      (let s := cage0 fun c => { c with control := { c.control with windowKind := 1 } }
       (s.cage 0).control.windowKind = 1) ∧
      (∀ n ∈ [3, 4, 5], ((cage0 fun c => { c with control := { c.control with windowKind := n } }).cage 0).control.windowKind = n) ∧
      (State.reset.cage 0).control.windowKind = 0 := by decide

/-- A piece folds into the record of its key, makes a record while there is room, and is lost at the quota. -/
theorem witness_JournalTakesOnePiece :
    let j := ((withRecord .reset .pending).cage 0).journal
    (j.list[0]? = some (record .pending) ∧ (record .pending).key = .lower 1) ∧
      (j.list.length < j.quota ∧ ¬{ j with quota := 1 }.list.length < { j with quota := 1 }.quota) ∧
      (∀ n : Fin 8, (record .pending).cells[n].isSome = true ↔ n = 0) := by decide

/-- Two bytes of a block that join, one past the block, one after a gap, one that is not kept, and one not acknowledged. -/
theorem witness_WritesAreCutIntoPieces :
    let r : Region := { entry := none, writeClass := .retain, readClass := .live, readBack := false, settle := 0 }
    let b (o : Byte) (gap : Bool) : HandedByte :=
      { offset := o, value := o, region := some r, acked := true, gap := gap }
    (cutPieces 0#8 0#8 [b 6#8 false, b 7#8 false, b 8#8 false]).map (·.last) = [7#8, 8#8] ∧
      (cutPieces 0#8 0#8 [b 6#8 false, b 7#8 true]).map (·.last) = [6#8, 7#8] ∧
      (cutPieces 0#8 0#8 [b 6#8 false, { b 7#8 false with region := some { r with writeClass := .reset } }]).length = 1 ∧
      { cage := 0, reached := true, bank := 0#8, page := 0#8,
          bytes := [b 6#8 false, { b 7#8 false with acked := false }, b 8#8 false] : HandedWrite }.acknowledged = [b 6#8 false] ∧
      (((State.reset.onJournal 0 fun j => { j with frozen := true }).cage 0).journal.frozen = true) := by decide

/-- A full pool, with a STALE line and without, is not written out: the bytes of a fill, and a line of another key. -/
theorem witness_FillInstallsAndRefreshesLines :
    let b : CacheByte := { key := .lower 1, pos := 0, value := 9#8, readClass := .live }
    let l : Line := { owner := 0, key := .lower 1, kind := .static, state := .stale, cells := emptyOctet }
    [b] ≠ [] ∧ (∀ x ∈ [b], x.key = .lower 1) ∧ l.isFor 0 (.lower 1) = true ∧
      (List.replicate 512 { l with key := .lower 2 }).length = 512 := by
  exact ⟨List.cons_ne_nil _ _, by decide, by decide, List.length_replicate ..⟩

/-- Two waiters: both skipped; the first skipped and the second granted; and granted in a second scan. -/
theorem witness_ScanPassesAndGrantsInOrder :
    let a : QueueEntry := { cage := 1, priority := 3, passed := 0 }
    let e : QueueEntry := { cage := 2, priority := 3, passed := 7 }
    let s (m n c : Nat) : State :=
      { ((State.reset.onCage 1 fun x => { x with ledger := { x.ledger with computed := some m } }).onCage 2 fun x =>
          { x with ledger := { x.ledger with computed := some n, charge := c } }) with
        committed := 300, queue := [a, e] }
    (s 400 400 0).inReset = false ∧ (s 400 400 0).settings.bypassLimit = 2 ∧
      (after (s 400 400 0) (.budgetWrite 64#8)).queue = [a, e] ∧
      (after (s 400 20 0) (.budgetWrite 64#8)).queue = [{ a with passed := 1 }] ∧
      (after (s 60 20 100) (.budgetWrite 64#8)).queue = [] := by decide

theorem witness_DivertedByteIsWrittenToThePage :
    (∀ p ∈ [Path.forwarded, .concealed, .uncovered, .control], ∀ n ∈ [(176#8, ControlPage.ctrl), (177#8, .window)],
      let x := { transfer false p with page := n.1 }
      let s := (onPort .reset x).onCtx 0 fun c => { c with hostPtr := 128#8 }
      s.inReset = false ∧ s.current 0 = some (0, x) ∧ x.hold = .none ∧ x.relay = .live ∧
        128 ≤ (s.cage 0).ctx.hostPtr.toNat ∧ s.straps.controlByte x.page (s.cage 0).ctx.hostPtr = some n.2) ∧
      ((cage0 fun c => { c with control := { c.control with arg0 := 1#8 } }).cage 0).control.arg0 = 1#8 ∧
      (2#8 : Byte).toNat = 2 := by decide

/-! ## States and operands for the further forms of the statements -/

/-- Cage 0 with a baseline, an empty slot in each place. -/
def known (s : State) : State := s.onSeq 0 fun q => { q with baseline := some emptyBaseline }

/-- MRST the host's at a level. -/
def hostMrst (s : State) (v : Bool) : State :=
  s.onCage 0 fun c => { c with lines := { c.lines with mrstOwner := .host, mrst := v } }

/-- A belief that agrees with the host view, one that differs in the pointer, in the page, and an UNKNOWN one: what a host's transfer
writes before its address, for a write and for a read (R7). -/
theorem witness_AddressByte_resynchronisations :
    let f : Belief := { bank := 0#8, page := 0#8, ptr := 0#8 }
    let v (b : Option Belief) := { (State.reset.cage 0).ctx with belief := b }
    let p := Profile.reset
    p.neededResync (v (some f)) true = [] ∧ p.neededResync (v (some { f with ptr := 9#8 })) false = [] ∧
      p.neededResync (v (some { f with ptr := 9#8 })) true = [[.addressWrite, .offset 0#8]] ∧
      p.neededResync (v (some { f with page := 3#8 })) false = [[.addressWrite, .offset 127#8, .data 0#8]] ∧
      p.neededResync (v none) true =
        [[.addressWrite, .offset 126#8, .data 0#8], [.addressWrite, .offset 127#8, .data 0#8], [.addressWrite, .offset 0#8]] ∧
      (transfer true .forwarded).path = .forwarded ∧ (transfer true .foreign).path = .foreign := by decide

/-- The states from which a recovery begins, of a STOP, a removal, a glitch, a probe's report, a sample's, MODULE_RESET and LINE: with a
baseline it is concealed, without one it is not; and it is not from HELD, in LEARN, with a conceal limit of 0, or in the reveal minimum. -/
theorem witness_recoveries_concealed_and_not :
    let x : Sample := { request := probeRequest, lanes := 1, failures := 9, retry := none }
    (∀ s ∈ [onPort (inState .serving) { transfer false .forwarded with resetSeen := true }, inPhase .presentDrop 20 .serving,
          probed 6#8,
          withBurst ((inState .serving).onLight 0 fun l => { l with activity := .monitor, failedRun := 7, sample := some x })
            (reported .sample .monitor .nacked []),
          inState .serving, hostMrst (inState .serving) false],
        (known s).Hides 0 ∧ ¬s.Hides 0) ∧
      ∀ s ∈ [known (inState .held), { known (inState .serving) with mode := .learn },
          (known (inState .serving)).onCage 0 fun c => { c with settings := { c.settings with concealLimit := 0 } },
          (known (inState .serving)).onSeq 0 fun q => { q with revealTimer := some (late 9) }],
        ¬s.Hides 0 := by
  unfold State.Hides; decide

/-- A cage that goes to BOOTING with MRST to be released at once, by the engine or by the host, and one that waits, for the end of a
pulse or for the host. -/
theorem witness_boot_waits :
    (∀ s ∈ [inState .booting, hostMrst (inState .held) false], (s.cage 0).MayBoot) ∧
      ∀ s ∈ [hostMrst (inState .held) true, cage0 fun c => { c with lines := { c.lines with pulse := some (late 10) } }],
        ¬(s.cage 0).MayBoot := by
  unfold Cage.MayBoot; decide

/-- A foreign byte; a byte after a stall, after a not-acknowledged address and after a control-page select; one of a refused transfer
that stands on a control page; and an uncovered select of the bank. -/
theorem witness_WrittenByte_other_forms :
    (∀ x ∈ [transfer false .foreign, { transfer false .foreign with relay := .stalled },
          { transfer false .forwarded with relay := .nacked }, { transfer false .forwarded with relay := .stalled },
          { transfer false .forwarded with relay := .afterSelect }, transfer false .foreignRefused],
        let s := onPort (inState .serving) x
        s.inReset = false ∧ s.current 0 = some (0, x) ∧ x.hold = .none ∧ x.read = false ∧ x.offsetSeen = true ∧
          ¬128 ≤ (s.cage 0).ctx.hostPtr.toNat) ∧
      (∀ x ∈ [transfer false .refused, { transfer false .forwarded with relay := .stalled }],
        let y := { x with page := 176#8 }
        let s := (onPort (inState .serving) y).onCtx 0 fun c => { c with hostPtr := 128#8 }
        s.current 0 = some (0, y) ∧ 128 ≤ (s.cage 0).ctx.hostPtr.toNat ∧ y.page = s.straps.ctrlPage ∧
          (y.path = .refused ∨ y.relay = .stalled)) ∧
      let s := (onPort (inState .booting) (transfer false .uncovered)).onCtx 0 fun c => { c with hostPtr := 126#8 }
      s.current 0 = some (0, transfer false .uncovered) ∧ (s.profileOf 0).bankSelect = some (s.cage 0).ctx.hostPtr ∧
        (s.cage 0).ctx.hostPtr ≠ (s.profileOf 0).pageSelect ∧ (transfer false .uncovered).refusing = false := by decide

/-- A foreign byte, a byte after a stall on each path that answers, and one after a not-acknowledged address. -/
theorem witness_ReadByte_other_forms :
    ∀ x ∈ transfer true .foreign :: { transfer true .forwarded with relay := .nacked } ::
        [Path.concealed, .control, .forwarded, .foreign].map (fun p => { transfer true p with relay := .stalled }),
      let s := onPort (inState .serving) x
      s.inReset = false ∧ s.current 0 = some (0, x) ∧ x.hold = .none ∧ x.read = true ∧ x.ended = false := by decide

/-- R13, R14: a foreign byte read moves no pointer, and a byte after a stall is 0xFF. -/
theorem test_foreign_and_stalled_bytes :
    ((after (onPort (inState .serving) (transfer true .foreign)) (.readDataByte 0 true)).cage 0).ctx.hostPtr = 0#8 ∧
      ((after (onPort (inState .serving) { transfer true .forwarded with relay := .stalled }) (.readDataByte 0 true)).group
        0).up.answer = .data 255#8 := by decide

/-- A foreign byte of each kind on the bus; and a read byte whose next byte lies on a control page. -/
theorem witness_ModuleAnswer_other_forms :
    (∀ h ∈ [Hold.address, .offset 0#8, .data 127#8 3#8, .read 255#8 true],
      let x := { transfer (decide (h = .read 255#8 true)) .foreign with hold := h }
      let s := onBus x h
      s.current 0 = some (0, x) ∧ (s.group 0).down.wait = some { duration := 50, elapsed := 3 } ∧ x.cut = none) ∧
      let x := { transfer true .forwarded with page := 176#8, hold := .read 127#8 true }
      let s := (onBus x (.read 127#8 true)).onCtx 0 fun c => { c with hostPtr := 128#8 }
      s.current 0 = some (0, x) ∧ (s.straps.controlByte x.page (s.cage 0).ctx.hostPtr).isSome = true ∧ x.relay = .live ∧
        ((after s (.moduleAnswer 0 true 90#8)).group 0).down.selected = none := by decide

/-- A removal whose charge grants another cage's entry, and one whose charge is too small for it. -/
theorem witness_QualifiedRemoval_scans :
    ∀ n ∈ [(60, true), (400, false)],
      let e : QueueEntry := { cage := 1, priority := 3, passed := 7 }
      let s : State :=
        { (((inPhase .presentDrop 20 .serving).onCage 0 fun c => { c with ledger := { c.ledger with charge := 100 } }).onCage 1
            fun c => { c with ledger := { c.ledger with computed := some n.1 } }) with
          committed := 300, queue := [e] }
      s.inReset = false ∧ s.queue.filter (fun e => decide (e.cage ≠ 0)) = [e] ∧
        (200 + n.1 ≤ s.settings.budget + 0 ↔ n.2 = true) ∧
        ((after s (.qualifiedRemoval 0)).cage 1).ledger.grant = n.2 := by decide

/-- No read in the profile, at the boot delay and at a ready poll, with a baseline and without. -/
theorem witness_identification_without_reads :
    (let s := seqState .booting fun q => { q with waitTimer := some (.bootDelay, late 2000) }
     s.inReset = false ∧ (s.cage 0).seq.waitTimer = some (.bootDelay, late 2000) ∧ (s.profileOf 0).idReads = [] ∧
      s.queue = [] ∧ (s.cage 0).seq.baseline = none ∧ ((known s).cage 0).seq.baseline ≠ none ∧
      ((after s (.bootDelay 0)).cage 0).seq.outcome = .first ∧
      ((after (known s) (.bootDelay 0)).cage 0).seq.outcome = .unchecked) ∧
      let b := reported .poll .sequencer .complete [1#8]
      let s := withBurst ((inState .booting).onOps 0 fun o =>
        { o with polling := some { mask := 1#8, value := 1#8, timer := none } }) b
      s.inReset = false ∧ s.Reports 0 b ∧ (s.profileOf 0).idReads = [] ∧ s.queue = [] ∧ b.outcome = some .complete ∧
        b.received = [1#8] ∧ ((after s (.burstEnd 0)).cage 0).seq.outcome = .first :=
  ⟨by decide, by decide, reports_of _ _ _ (by decide), by decide⟩

/-- A record whose one byte stands at the page select offset, so that it has no run (R134). -/
def selectRecord (m : Mark) : Record :=
  { key := .lower 15, cls := .retain, cells := emptyOctet.put 7 3#8, mark := m }

/-- Replay with an empty journal, at the ramp delay and by FORCE_REPLAY, and with a record that has no run, which finishes. -/
theorem witness_replay_without_runs :
    (let s := seqState .ramping fun q => { q with waitTimer := some (.rampDelay, late 2000), recovery := some .silent }
     let u := s.onJournal 0 fun j => { j with list := [selectRecord .failed] }
     (s.cage 0).seq.recovery = some .silent ∧ (s.cage 0).journal.list = [] ∧ (s.cage 0).journal.target = none ∧
      (s.cage 0).journal.incomplete = false ∧ runsOf (u.profileOf 0) (selectRecord .pending) = [] ∧
      ((after s (.rampDelay 0)).cage 0).seq.serveCheck = true ∧
      ((after u (.rampDelay 0)).cage 0).journal.list = [selectRecord .applied] ∧
      ((after u (.rampDelay 0)).cage 0).events.counters[6] = 1) ∧
      let s := (inState .held).onCage 0 fun c => { c with ledger := { c.ledger with grant := true } }
      (s.cage 0).journal.list = [] ∧ (s.cage 0).ledger.grant = true ∧
        ((after s (.forceReplay 0)).cage 0).seq.serveCheck = true := by decide

/-- A record that finishes with settle 0, the last one and the last of a pass; and a settle wait with a PENDING record behind it. -/
theorem witness_replay_goes_on :
    let b := reported .replayWrite .sequencer .complete []
    let s := (replaying .write false 0 0 b).onOps 0 fun o => { o with cursor := { o.cursor with settle := 0, passes := 1 } }
    let two := (s.onJournal 0 fun j => { j with list := [record .pending, { record .pending with key := .lower 2 }] }).onOps 0
      fun o => { o with cursor := { o.cursor with position := some 1 } }
    let waits := two.onOps 0 fun o => { o with cursor := { o.cursor with timer := some (late 5) } }
    s.inReset = false ∧ (∀ z ∈ [s, two], z.Reports 0 b) ∧
      ((s.cage 0).ops.cursor.settle = 0 ∧ (s.cage 0).journal.target = none ∧
        ((after s (.burstEnd 0)).cage 0).seq.serveCheck = true) ∧
      (let c := (after two (.burstEnd 0)).cage 0
       c.ops.cursor.position = some 0 ∧ c.ops.cursor.passes = 2 ∧ c.journal.target = some (0, false)) ∧
      (waits.cage 0).ops.cursor.timer = some (late 5) ∧
        ((after waits (.settleWaitEnd 0)).cage 0).ops.cursor.passes = 2 := by
  refine ⟨by decide, fun z hz => reports_of _ _ _ ?_, by decide⟩
  revert hz; revert z; decide

/-- RESUME with MRST the host's, released and asserted. -/
theorem witness_Resume_of_a_host_line :
    ∀ v ∈ [(false, true), (true, false)],
      let s := hostMrst (inState .held) v.1
      s.inReset = false ∧ (s.cage 0).lines.mrstOwner = .host ∧ (s.cage 0).seq.state = .held ∧
        ((after s (.resume 0)).cage 0).seq.waitTimer.isSome = v.2 := by decide

/-- CAGE_CLEAR between a burst's last STOP and its BURST_END, with a request of another cage that waits: it has the bus next. -/
theorem witness_CageClear_passes_the_bus :
    let s := (withBurst .reset (endedBurst .sequencer 0#8 false)).onCage 3 fun c =>
      { c with slot := .requested .monitor probeRequest }
    s.inReset = false ∧ (s.cage 0).slot = .running ∧ (s.cage 0).seq.state = .vacant ∧ (s.group 0).down.wait = none ∧
      (s.group 0).down.stalled = false ∧ (s.cage 0).slotQueue = [] ∧
      ((after s (.cageClear 0)).group 0).owner = .burst 3 := by decide

/-- 12.3: bytes of the CTRL page right after reset: the control page and module address, the budget, the ceiling, an unassigned offset. -/
theorem witness_page_layouts :
    (let l := State.reset.ctrlLayout 0
     l.lookup 129 = some 176 ∧ l.lookup 130 = some 80 ∧ l.lookup 136 = some 1 ∧ l.lookup 137 = some 64 ∧
      l.lookup 192 = some 120 ∧ l.lookup 255 = none ∧ 128 ≤ 255 ∧ 255 < 256) ∧
      (State.reset.windowLayout 0).lookup 128 = some 1 ∧
      ((withRecord .reset .applied).windowLayout 0).lookup 136 = some 7 ∧
      ∀ n ∈ [(1, 127), (2, 0), (3, 0), (4, 0), (5, 0), (6, 0)],
        (((cage0 fun c => { c with control := { c.control with windowKind := n.1 } }).windowLayout 0).lookup 128).getD 0 = n.2 := by
  decide

/-! ## A cage that leaves service, the bus given back, and the glitch probe that waits -/

/-- The bus of group 0 in the hands of an owner, its module stalling or not. -/
def ownedBy (s : State) (o : Owner) (stalled : Bool) : State :=
  s.onGroup 0 fun g => { g with owner := o, down := { g.down with selected := some 0, stalled := stalled } }

/-- A transaction of cage 0 between its transfers. -/
def betweenTransfers (s : State) : State :=
  s.onGroup 0 fun g => { g with up := { g.up with transaction := some { cage := some 0, transfer := none } } }

/-- A host of cage 0 that waits behind a burst. -/
def waitsBehind (s : State) (b : Burst) : State :=
  (onPort (withBurst s b) { transfer true .forwarded with hold := .bus }).onGroup 0 fun g =>
    { g with waiting := some { cage := 0, timer := late 20 } }

/-- A transaction between transfers and one without a cage, on a bus of the host's and on an IDLE one; and a RESET-class write of a
transaction that holds the bus. -/
theorem witness_TransferEnd_without_a_transfer :
    (∀ o ∈ [(Owner.host 0 false, true), (.host 0 false, false), (.idle, false)],
      let s := ownedBy (betweenTransfers (inState .serving)) o.1 o.2
      s.inReset = false ∧ (s.group 0).up.transaction = some { cage := some 0, transfer := none } ∧
        (s.group 0).owner = o.1 ∧ (s.group 0).down.stalled = o.2) ∧
      ((after .reset (.start 0 0#4)).group 0).up.transaction = some { cage := none, transfer := none } ∧
      ((after (ownedBy (betweenTransfers (inState .serving)) (.host 0 false) false) (.stop 0)).group 0).owner = .idle ∧
      let x := { transfer false .forwarded with resetSeen := true }
      let s := ownedBy (onPort (inState .serving) x) (.host 0 false) false
      s.current 0 = some (0, x) ∧ x.hold = .none ∧ (s.group 0).owner = .host 0 false ∧ (s.group 0).waiting = none ∧
        (s.group 0).burst = none ∧ (s.cage 0).slot ≠ .running ∧ (s.cage 0).seq.state = .serving := by decide

/-- R7, R23, R24: a later address byte on the bus that its transaction holds, a stalled one's, and one behind an ended transaction. -/
theorem witness_AddressByte_of_a_held_bus :
    ∀ n ∈ [(Owner.host 0 false, false, false), (.host 0 false, true, false), (.host 2 true, true, true)],
      let s := ownedBy (betweenTransfers (inState .serving)) n.1 n.2.1
      let t := after s (.addressByte 0 80#7 true)
      s.inReset = false ∧ (s.group 0).up.transaction = some { cage := some 0, transfer := none } ∧
        (s.group 0).owner = n.1 ∧ (s.group 0).down.stalled = n.2.1 ∧ (t.group 0).waiting.isSome = n.2.2 ∧
        (t.group 0).owner = n.1 ∧ ((t.wire 0 = some (.address 80#7 false)) ↔ n.2.1 = false) := by decide

/-- The states in which a cage leaves service, of each row that makes it, with a transaction of it that holds the bus: between its
transfers, at a byte boundary on each path and relay, held at its address byte, with a byte on the bus, and on a path without the bus. -/
theorem witness_LeavesService :
    (∀ s ∈ [inState .serving, inState .held, inPhase .presentDrop 20 .serving, hostMrst (inState .held) false,
          (inState .serving).onOps 0 fun o => { o with glitchWait := some .capture },
          (inState .held).onCage 0 fun c => { c with ledger := { c.ledger with grant := true } }],
        let u := ownedBy (betweenTransfers s) (.host 0 false) false
        u.inReset = false ∧ (u.group 0).owner = .host 0 false ∧ (u.group 0).waiting = none ∧ (u.group 0).burst = none ∧
          (u.cage 0).slot ≠ .running ∧ (u.group 0).up.transaction = some { cage := some 0, transfer := none } ∧
          ∀ x ∈ [transfer true .forwarded, transfer false .foreign, { transfer false .forwarded with relay := .stalled },
              { transfer false .forwarded with hold := .release }, { transfer false .forwarded with hold := .data 8#8 1#8 },
              transfer true .control],
            (ownedBy (onPort s x) (.host 0 false) false).current (groupOf 0) = some (0, x)) ∧
      ∀ b ∈ [endedBurst .monitor 0#8 true, { endedBurst .monitor 0#8 false with cage := 2 }],
        let s := waitsBehind (inState .serving) b
        (s.group 0).waiting = some { cage := 0, timer := late 20 } ∧ (s.group 0).owner ≠ .idle ∧
          s.current 0 = some (0, { transfer true .forwarded with hold := .bus }) := by decide

/-- R10, R23, R24: MODULE_RESET at a byte boundary gives the bus back and takes the path of the new state; with a byte on the bus the
cut is pending; a host that waits is refused, the cage not being concealed; a stalled module keeps the bus. -/
theorem test_module_reset_cuts_the_transfer :
    (let t := after (ownedBy (onPort (inState .serving) (transfer false .forwarded)) (.host 0 false) false) (.moduleReset 0)
     (t.group 0).owner = .idle ∧ (t.current 0).map (fun y => y.2.path) = some .uncovered) ∧
      (let t := after (onBus (transfer false .forwarded) (.data 8#8 1#8)) (.moduleReset 0)
       (t.group 0).owner = .host 0 false ∧ (t.current 0).map (fun y => y.2.cut) = some (some .uncovered)) ∧
      (let t := after (waitsBehind (inState .serving) { endedBurst .monitor 0#8 false with cage := 2 }) (.moduleReset 0)
       (t.group 0).waiting = none ∧ (t.group 0).up.answer = .nack ∧ (t.group 0).owner = .burst 0) ∧
      ((after (ownedBy (betweenTransfers (inState .serving)) (.host 0 false) true) (.moduleReset 0)).group 0).owner =
        .host 0 true := by decide

/-- R24, R31: a removal ends a stalled burst of the cage, and a hold kept for its module; another cage's bus stands. -/
theorem witness_QualifiedRemoval_frees_the_bus :
    let s := inPhase .presentDrop 20 .serving
    (let u := ownedBy s (.host 0 true) true
     (u.group 0).owner = .host 0 true ∧ (u.group 0).down.stalled = true ∧ (u.cage 0).slot ≠ .running ∧
      (u.group 0).burst = none ∧ ((after u (.qualifiedRemoval 0)).group 0).owner = .idle) ∧
      (∀ p ∈ [BurstPhase.select, .data],
        let u := ownedBy (withBurst s (inBurst p [.read] [])) (.burst 0) true
        (u.group 0).down.wait = none ∧ (u.group 0).burst = some (inBurst p [.read] []) ∧
          ((after u (.qualifiedRemoval 0)).group 0).owner = .idle ∧
          ((after u (.qualifiedRemoval 0)).group 0).down.stalled = false) ∧
      ∀ o ∈ [Owner.burst 2, .host 2 false, .host 2 true],
        let u := ownedBy s o true
        (u.group 0).owner = o ∧ (u.group 0).burst = none ∧ ((after u (.qualifiedRemoval 0)).group 0).owner = o := by decide

/-- R140, R142: a glitch in SERVING with no expected byte; in a periodic probe, with its burst not running and running; while a glitch
probe runs or waits; and in a capture. -/
theorem witness_Glitch_in_service :
    let s := ready (inPhase .presentDrop 20 .serving)
    let u := ready (withRecord (inPhase .presentDrop 20 .serving) .applied)
    let probe (g : Bool) (s : State) : State :=
      s.onOps 0 fun o => { o with probe := some { glitch := g, loc := spot, failures := 0 } }
    let b := inBurst .data [.read] []
    let x : Capture := { origin := .adopt, todo := [], got := emptyBaseline, held := [], failures := 0 }
    let c := u.onOps 0 fun o => { o with capture := some x }
    ((s.profileOf 0).usableProbe = some spot ∧ (s.cage 0).journal.expected spot = none ∧
      ((after s (.glitch 0)).cage 0).seq.recovery = some .silent) ∧
      ((u.cage 0).journal.expected spot = some 7#8 ∧ (u.cage 0).seq.state = .serving ∧
        ((after u (.glitch 0)).cage 0).ops.probe.isSome = true) ∧
      (((probe false u).cage 0).ops.probe = some { glitch := false, loc := spot, failures := 0 } ∧
        ((probe false u).group 0).burst = none ∧
        ((after (probe false u) (.glitch 0)).cage 0).ops.probe = some { glitch := true, loc := spot, failures := 0 }) ∧
      ((sending (probe false u) b).group 0).burst = some b ∧ ((sending (probe false u) b).group 0).owner = .burst 0 ∧
      b.agent = .sequencer ∧ b.orphan = false ∧
      ((after (sending (probe false u) b) (.glitch 0)).cage 0).ops.glitchWait = some .report ∧
      ((after (probe true u) (.glitch 0)).cage 0).ops = ((probe true u).cage 0).ops ∧
      (c.cage 0).ops.capture ≠ none ∧ ((after c (.glitch 0)).cage 0).ops.glitchWait = some .capture := by decide

/-- R14, R22, R24: a release that a later transfer waits for; of a bus kept for an ended transaction with a request, and with a host that
waits; and of an aborted burst's with a request of its own cage behind it. -/
theorem witness_Release_passes_the_bus :
    let asks (s : State) : State := s.onCage 3 fun c => { c with slot := .requested .monitor probeRequest }
    (let x := { transfer true .forwarded with hold := .release }
     let s := ownedBy (onPort (inState .serving) x) (.host 0 false) true
     s.inReset = false ∧ s.current 0 = some (0, x) ∧ (s.group 0).owner = .host 0 false ∧ (s.group 0).down.stalled = true ∧
      (after s (.moduleReleasesDscl 0)).wire 0 = some (.address 80#7 false)) ∧
      (let s := ownedBy (asks (inState .serving)) (.host 0 true) true
       (s.group 0).waiting = none ∧ ((after s (.moduleReleasesDscl 0)).group 0).owner = .burst 3) ∧
      (let s := ownedBy (waitsBehind (asks (inState .serving)) (endedBurst .monitor 0#8 true)) (.host 2 true) true
       (s.group 0).waiting = some { cage := 0, timer := late 20 } ∧
        ((after s (.moduleReleasesDscl 0)).group 0).owner = .host 0 false) ∧
      let b := { inBurst .data [.read] [] with aborting := true, orphan := true, outcome := some .aborted }
      let s := (ownedBy (withBurst (inState .vacant) b) (.burst 0) true).onCage 0 fun c =>
        { c with slotQueue := [(.monitor, probeRequest)] }
      (s.group 0).burst = some b ∧ (s.group 0).down.stalled = true ∧ (s.cage 0).slotQueue = [(.monitor, probeRequest)] ∧
        ((after s (.moduleReleasesDscl 0)).group 0).owner = .burst 0 ∧
        ((after s (.moduleReleasesDscl 0)).cage 0).slotQueue = [] := by decide

/-- A pending cut at the relayed address byte, and of a foreign transfer at each byte, with a request of another cage that waits. -/
theorem witness_Resynchronisation_other_cuts :
    ∀ p ∈ [Path.forwarded, .foreign], ∀ h ∈ [Hold.address, .offset 0#8, .data 255#8 1#8, .read 255#8 false],
      let x := { transfer (decide (h = .read 255#8 false)) p with cut := some .refused }
      let s := (onBus x h).onCage 2 fun c => { c with slot := .requested .monitor probeRequest }
      s.inReset = false ∧ s.current 0 = some (0, { x with hold := h }) ∧ x.relay = .live ∧ (s.group 0).waiting = none ∧
        (s.group 0).owner = .host 0 false ∧ (s.group 0).down.wait.isSome = true ∧ (s.group 0).down.stalled = false ∧
        ((after s (.moduleAnswer 0 true 9#8)).group 0).owner = .burst 2 := by decide

/-- R15: a transaction between its transfers is abandoned, on its bus and with none; one without a cage is not. -/
theorem witness_Abandonment_without_a_transfer :
    (∀ o ∈ [Owner.host 0 false, .idle],
      let s := ownedBy (betweenTransfers (inState .serving)) o false
      s.inReset = false ∧ (s.group 0).up.transaction = some { cage := some 0, transfer := none } ∧
        ((after s (.abandoned 0)).group 0).owner = .idle ∧ (after s (.abandoned 0)).counters[2] = 1) ∧
      let s := after .reset (.start 0 0#4)
      (s.group 0).up.transaction = some { cage := none, transfer := none } ∧ (after s (.abandoned 0)).counters[2] = 0 := by
  decide

/-- R142: the report that a glitch probe waits for, with an expected byte and without. -/
theorem witness_BurstEnd_starts_the_glitch_probe :
    ∀ m ∈ [(Mark.applied, true), (.pending, false)],
      let b := endedBurst .sequencer 0#8 true
      let s := withBurst (ready ((withRecord (inState .serving) m.1).onOps 0 fun o => { o with glitchWait := some .report })) b
      s.inReset = false ∧ (s.group 0).burst = some b ∧ b.phase = .ended ∧ (s.group 0).down.stalled = false ∧
        (s.cage 0).ops.glitchWait = some .report ∧ (s.cage 0).slot = .running ∧ (s.profileOf 0).usableProbe = some spot ∧
        ((s.cage 0).journal.expected spot).isSome = m.2 ∧
        ((after s (.burstEnd 0)).cage 0).ops.probe.isSome = m.2 ∧
        (((after s (.burstEnd 0)).cage 0).seq.recovery = some .silent ↔ m.2 = false) := by decide

/-- R128: a prefetch read given up as the last read. -/
theorem witness_IdentificationOutcome_of_a_given_up_read :
    ∀ o ∈ [BurstOutcome.nacked, .stalled],
      let b := reported .prefetch .sequencer o []
      let s := identifying [.prefetch { loc := spot, length := 1 }] 9 b
      s.inReset = false ∧ s.Reports 0 b ∧ b.request.purpose = .prefetch ∧ s.queue = [] ∧ s.settings.retryLimit ≤ 9 + 1 ∧
        (s.cage 0).seq.baseline = none ∧ ((after s (.burstEnd 0)).cage 0).seq.outcome = .first := by
  refine fun o ho => ⟨?_, reports_of _ _ _ ?_, ?_, ?_, ?_, ?_, ?_⟩
  all_goals (revert ho; revert o; decide)

/-- R131, R142: a capture of ADOPT that ends with a span that VALID lines cover, a glitch probe waiting for it. -/
theorem witness_CaptureReport_other_forms :
    ∀ m ∈ [(Mark.applied, true), (.pending, false)],
      let g (n : Byte) : Target := { loc := { spot with offset := n }, length := 1 }
      let x : Capture :=
        { origin := .adopt, todo := [(0, .model, g 16#8), (1, .unit, g 8#8)], got := emptyBaseline, held := [], failures := 0 }
      let b := reported .identity .sequencer .complete [1#8]
      let s := withBurst
        { ready ((withRecord (inState .serving) m.1).onOps 0 fun o =>
            { o with capture := some x, glitchWait := some .capture }) with
          cache := [{ owner := 0, key := .lower 1, kind := .live, state := .valid, cells := emptyOctet.put 0 5#8 }] } b
      s.inReset = false ∧ s.Reports 0 b ∧ b.request.purpose = .identity ∧ (s.cage 0).ops.capture = some x ∧
        (s.cage 0).ops.identification = none ∧ (s.cage 0).ops.probe = none ∧
        (s.cage 0).ops.glitchWait = some .capture ∧ (s.coveredSpan 0 (g 8#8)) = some [5#8] ∧
        ((s.cage 0).journal.expected spot).isSome = m.2 ∧
        ((after s (.burstEnd 0)).cage 0).ops.probe.isSome = m.2 ∧
        (((after s (.burstEnd 0)).cage 0).seq.state = .booting ↔ m.2 = false) := by
  refine fun m hm => ⟨?_, reports_of _ _ _ ?_, ?_, ?_, ?_, ?_, ?_, ?_, ?_, ?_, ?_⟩
  all_goals (revert hm; revert m; decide)

/-- R122, R140: CAGE_CLEAR with no identity span while a glitch probe waits: nothing is expected of the emptied journal. -/
theorem witness_CageClear_recovers :
    ∀ v ∈ [some GlitchWait.capture, some .report],
      let s := (inState .serving).onOps 0 fun o => { o with glitchWait := v }
      s.inReset = false ∧ (s.cage 0).seq.state = .serving ∧ (s.profileOf 0).captureSpans = [] ∧
        (s.cage 0).ops.glitchWait ≠ none ∧ (s.group 0).burst = none ∧
        ((after s (.cageClear 0)).cage 0).seq.recovery = some .silent ∧
        ((after s (.cageClear 0)).cage 0).seq.state = .booting := by decide

end Sys2Proof.Tests
end

section
/-! PROOFS. Presence before a module is accepted: the rise that begins an insertion (R80) and the removal that ends it without a
settle (R84). -/

namespace Sys2Proof.Machine

/-- R83: with no bounce counted, the settle base stands undoubled. -/
theorem settleTime_no_bounces (base limit : Nat) : settleTime base limit 0 = 10 * base := by
  simp [settleTime, Nat.mul_comm]

/-- R80: the insertion that a rise begins. -/
theorem Qualifier.rise_eq (q : Qualifier) (base limit : Nat) :
    q.rise base limit =
      { phase := .settling, present := true, interrupt := q.interrupt,
        timer := some { duration := 10 * base, elapsed := 0 }, bounces := 0, unstable := false,
        absence := q.absence, absenceAtRise := q.absence } := by
  rw [Qualifier.rise, settleTime_no_bounces, Timer.start]

theorem Qualifier.timerLength_of_timer {q : Qualifier} {x : Timer} (h : q.timer = some x) :
    q.timerLength = x.duration := by
  simp [Qualifier.timerLength, h]

/-- R84, R87: a removal of a module never accepted starts the absence measurement only where none runs. -/
theorem Qualifier.giveUp_of_timer {q : Qualifier} {x : Timer} (h : q.timer = some x) :
    q.giveUp =
      { q with
        phase := .absent
        timer := none
        absence :=
          match q.absence with
          | none => some x.duration
          | some n => some n } := by
  rw [Qualifier.giveUp, q.timerLength_of_timer h]
  cases q.absence <;> rfl

/-- A presence event in its phase whose effect is one cage's own changes that cage alone. -/
theorem event_onCage_of_phase {s : State} {k : CageId} {p : Phase} (f : State → Cage → Cage)
    (live : s.inReset = false) (phase : (s.cage k).qual.phase = p) :
    ∃ t, event s (fun u => u.whenever (u.inPhase k p) fun v => v.onCage k (f v)) = .next t ∧
      OnlyCage k s t ∧ t.cage k = (f s (s.cage k)).driveLines := by
  refine ⟨(s.onCage k (f s)).driveAlert, ?_, (OnlyCage.onCage s k _).driveAlert, ?_⟩
  · exact event_whenever (fun u => u.inPhase k p) (fun v => v.onCage k (f v)) live (decide_eq_true phase)
  · rw [State.cage_driveAlert, State.cage_onCage_self]

/-- Settles O17: in ABSENT a rise is an effect on one cage, and with a bounce count of 0 its settle time is the settle base. -/
theorem riseBeginsAnInsertion : Obligations.RiseBeginsAnInsertion := by
  intro s k live absent
  obtain ⟨t, runs, only, cage⟩ :=
    event_onCage_of_phase (fun u c =>
      { c with
        qual := c.qual.rise u.settings.settleBase u.settings.bounceLimit
        seq := { c.seq with state := .settling } }) live absent
  rw [Qualifier.rise_eq] at cage
  exact ⟨t, runs, only, cage⟩

/-- Settles O19: in SETTLE_DROP the removal is an effect on one cage, and the timer's length starts a stopped measurement. -/
theorem unacceptedRemovalLeavesNoTrace : Obligations.UnacceptedRemovalLeavesNoTrace := by
  intro s k x live dropped timer
  obtain ⟨t, runs, only, cage⟩ :=
    event_onCage_of_phase (fun _ c =>
      { c with qual := c.qual.giveUp, seq := { c.seq with state := .vacant } }) live dropped
  rw [Qualifier.giveUp_of_timer timer] at cage
  exact ⟨t, runs, only, cage⟩

end Sys2Proof.Machine
end
